-- ==== Sys2Proof/Word.lean ====
section
/-! DEFINITION. The words and small fixed arrays of GSP-CORE: command and response words (R49, R50), samples (R11),
and the indexed register arrays of FFE and REV (R26). -/

namespace Sys2Proof

/-- A command word `CW[63:0]` (R49). -/
abbrev CommandWord := BitVec 64

/-- A response word `RW[63:0]` (R50). -/
abbrev ResponseWord := BitVec 64

/-- The `VALUE` field of a response and the `DATA` field of a command (R49, R50). -/
abbrev Word32 := BitVec 32

/-- One cell of HB or RB: a signed 16-bit sample in two's complement (R11, R36). -/
abbrev Sample := BitVec 16

/-- Four like registers, one for each line of the reverberator (R26, R32). -/
structure Quad (α : Type) where
  q0 : α
  q1 : α
  q2 : α
  q3 : α
  deriving DecidableEq, Repr

/-- The four elements in index order. -/
def Quad.toList {α : Type} (q : Quad α) : List α := [q.q0, q.q1, q.q2, q.q3]

/-- The same value in all four places. -/
def Quad.all {α : Type} (a : α) : Quad α := ⟨a, a, a, a⟩

/-- A function applied to each element. -/
def Quad.map {α β : Type} (f : α → β) (q : Quad α) : Quad β := ⟨f q.q0, f q.q1, f q.q2, f q.q3⟩

/-- A function applied to the elements of two quads, index by index. -/
def Quad.zip {α β γ : Type} (f : α → β → γ) (p : Quad α) (q : Quad β) : Quad γ :=
  ⟨f p.q0 q.q0, f p.q1 q.q1, f p.q2 q.q2, f p.q3 q.q3⟩

/-- Every element has the property. -/
abbrev Quad.Forall {α : Type} (q : Quad α) (P : α → Prop) : Prop := P q.q0 ∧ P q.q1 ∧ P q.q2 ∧ P q.q3

/-- Eight like registers, the tap weights `FFE.W[0..7]` (R26, R31). -/
structure Octet (α : Type) where
  o0 : α
  o1 : α
  o2 : α
  o3 : α
  o4 : α
  o5 : α
  o6 : α
  o7 : α
  deriving DecidableEq, Repr

/-- The eight elements in index order. -/
def Octet.toList {α : Type} (o : Octet α) : List α := [o.o0, o.o1, o.o2, o.o3, o.o4, o.o5, o.o6, o.o7]

/-- The octet whose element `n` is `f n`. -/
def Octet.ofFn {α : Type} (f : Nat → α) : Octet α := ⟨f 0, f 1, f 2, f 3, f 4, f 5, f 6, f 7⟩

/-- Element `n`, `0 ≤ n ≤ 7`; the spec names no other element (a number above 7 reads 0). -/
def Octet.get (o : Octet Nat) (n : Nat) : Nat := o.toList.getD n 0

end Sys2Proof
end

