-- ==== Sys2Proof/Syntax.lean ====
section
/-! DEFINITION. The commands of GSP-CORE: one constructor of `Instr` for each of the 57 rows of the opcode map (R56), its
operands as the row's format carries them (R51), and the six fault codes (R140). -/

namespace Sys2Proof

/-- The eight units, the values 0 to 7 of the `UNIT` field (R52). -/
inductive UnitId where
  | glb | shb | det | oct | psh | fbe | ffe | rev
  deriving DecidableEq, Repr

/-- The three instances of the grain scheduler (R29, R52). -/
inductive GrainId where
  | det | oct | psh
  deriving DecidableEq, Repr

/-- The fault codes 1 to 6 of a response (R140). They are answers to a command, not stops of the machine. -/
inductive FaultCode where
  | eUnit | eOp | eSel | eRsvd | eNoInit | eOperand
  deriving DecidableEq, Repr

/-- A command. Operands by format (R51): `fs`, `v`, `o` and `x` are the `DATA` field read as a signed 32-bit number
(sample rate, parameter value, offset, sample), `sel` the `SEL` field, `c` the `AUX` field (cursor), `on` bit 0 of
`DATA`. -/
inductive Instr where
  /-- GLB.NOP (format Z, R138) -/
  | glbNop
  /-- GLB.PEEK (format G, R139) -/
  | glbPeek (sel : BitVec 8)
  /-- SHB.INIT (format Z, R70) -/
  | shbInit
  /-- SHB.PUSH (format Q, R71) -/
  | shbPush (x : Word32)
  /-- SHB.READ (format X, R72) -/
  | shbRead (c : BitVec 16) (o : Word32)
  /-- SHB.INDEX (format X, R73) -/
  | shbIndex (c : BitVec 16) (o : Word32)
  /-- SHB.PEEK (format G, R74) -/
  | shbPeek (sel : BitVec 8)
  /-- DET.INIT (format I, R84) -/
  | detInit (fs : Word32)
  /-- DET.SET.SHIFT (format S, R85) -/
  | detSetShift (v : Word32)
  /-- DET.SET.MIX (format S, R86) -/
  | detSetMix (v : Word32)
  /-- DET.SET.GAIN (format S, R87) -/
  | detSetGain (v : Word32)
  /-- DET.GET (format G, R88) -/
  | detGet (sel : BitVec 8)
  /-- DET.SWITCH (format W, R89) -/
  | detSwitch (on : Bool)
  /-- DET.PROC (format P, R90) -/
  | detProc (c : BitVec 16) (x : Word32)
  /-- DET.PEEK (format G, R93) -/
  | detPeek (sel : BitVec 8)
  /-- OCT.INIT (format I, R84) -/
  | octInit (fs : Word32)
  /-- OCT.SET.SHIFT (format S, R85) -/
  | octSetShift (v : Word32)
  /-- OCT.SET.MIX (format S, R86) -/
  | octSetMix (v : Word32)
  /-- OCT.SET.GAIN (format S, R87) -/
  | octSetGain (v : Word32)
  /-- OCT.GET (format G, R88) -/
  | octGet (sel : BitVec 8)
  /-- OCT.SWITCH (format W, R89) -/
  | octSwitch (on : Bool)
  /-- OCT.PROC (format P, R90) -/
  | octProc (c : BitVec 16) (x : Word32)
  /-- OCT.PEEK (format G, R93) -/
  | octPeek (sel : BitVec 8)
  /-- PSH.INIT (format I, R84) -/
  | pshInit (fs : Word32)
  /-- PSH.SET.SHIFT (format S, R85) -/
  | pshSetShift (v : Word32)
  /-- PSH.SET.MIX (format S, R86) -/
  | pshSetMix (v : Word32)
  /-- PSH.SET.GAIN (format S, R87) -/
  | pshSetGain (v : Word32)
  /-- PSH.GET (format G, R88) -/
  | pshGet (sel : BitVec 8)
  /-- PSH.SWITCH (format W, R89) -/
  | pshSwitch (on : Bool)
  /-- PSH.PROC (format P, R90) -/
  | pshProc (c : BitVec 16) (x : Word32)
  /-- PSH.PEEK (format G, R93) -/
  | pshPeek (sel : BitVec 8)
  /-- FBE.INIT (format I, R99) -/
  | fbeInit (fs : Word32)
  /-- FBE.SET.DELAY_MS (format S, R100) -/
  | fbeSetDelayMs (v : Word32)
  /-- FBE.SET.DECAY (format S, R101) -/
  | fbeSetDecay (v : Word32)
  /-- FBE.SET.GAIN (format S, R102) -/
  | fbeSetGain (v : Word32)
  /-- FBE.SET.DELAY_SMP (format S, R103) -/
  | fbeSetDelaySmp (v : Word32)
  /-- FBE.GET (format G, R104) -/
  | fbeGet (sel : BitVec 8)
  /-- FBE.SWITCH (format W, R105) -/
  | fbeSwitch (on : Bool)
  /-- FBE.PROC (format P, R106) -/
  | fbeProc (c : BitVec 16) (x : Word32)
  /-- FBE.PEEK (format G, R107) -/
  | fbePeek (sel : BitVec 8)
  /-- FFE.INIT (format I, R111) -/
  | ffeInit (fs : Word32)
  /-- FFE.SET.DELAY_MS (format S, R112) -/
  | ffeSetDelayMs (v : Word32)
  /-- FFE.SET.REPEATS (format S, R113) -/
  | ffeSetRepeats (v : Word32)
  /-- FFE.SET.DECAY (format S, R114) -/
  | ffeSetDecay (v : Word32)
  /-- FFE.SET.GAIN (format S, R115) -/
  | ffeSetGain (v : Word32)
  /-- FFE.SET.DELAY_SMP (format S, R116) -/
  | ffeSetDelaySmp (v : Word32)
  /-- FFE.GET (format G, R117) -/
  | ffeGet (sel : BitVec 8)
  /-- FFE.SWITCH (format W, R118) -/
  | ffeSwitch (on : Bool)
  /-- FFE.PROC (format P, R119) -/
  | ffeProc (c : BitVec 16) (x : Word32)
  /-- FFE.PEEK (format G, R120) -/
  | ffePeek (sel : BitVec 8)
  /-- REV.INIT (format I, R125) -/
  | revInit (fs : Word32)
  /-- REV.SET.TIME (format S, R126) -/
  | revSetTime (v : Word32)
  /-- REV.SET.GAIN (format S, R127) -/
  | revSetGain (v : Word32)
  /-- REV.GET (format G, R128) -/
  | revGet (sel : BitVec 8)
  /-- REV.SWITCH (format W, R129) -/
  | revSwitch (on : Bool)
  /-- REV.PROC (format Q, R130) -/
  | revProc (x : Word32)
  /-- REV.PEEK (format G, R131) -/
  | revPeek (sel : BitVec 8)
  deriving DecidableEq, Repr

end Sys2Proof
end

