-- ==== Sys2Proof/WellFormed.lean ====
section
/-! DEFINITION. Which commands are well formed: the selector of a GET names a parameter of its unit (R54), the selector
of a PEEK one of its registers (R55). Every other operand field is legal in a command word at each of its values; that a
cursor lies below `N` and a sample in 16 bits is checked when the command executes (R58, R59). -/

namespace Sys2Proof

/-- How many parameters SET and GET of a unit have (R54, the counts of R140). -/
def nparams : UnitId → Nat
  | .glb => 0
  | .shb => 0
  | .det => 3
  | .oct => 3
  | .psh => 3
  | .fbe => 4
  | .ffe => 5
  | .rev => 2

/-- How many registers PEEK of a unit has (R55, the counts of R140). -/
def npeek : UnitId → Nat
  | .glb => 4
  | .shb => 3
  | .det => 21
  | .oct => 21
  | .psh => 21
  | .fbe => 8
  | .ffe => 17
  | .rev => 27

/-- The unit a command is for: the `UNIT` field of its words (R52). -/
def Instr.unit : Instr → UnitId
  | .glbNop => .glb
  | .glbPeek _ => .glb
  | .shbInit => .shb
  | .shbPush _ => .shb
  | .shbRead _ _ => .shb
  | .shbIndex _ _ => .shb
  | .shbPeek _ => .shb
  | .detInit _ => .det
  | .detSetShift _ => .det
  | .detSetMix _ => .det
  | .detSetGain _ => .det
  | .detGet _ => .det
  | .detSwitch _ => .det
  | .detProc _ _ => .det
  | .detPeek _ => .det
  | .octInit _ => .oct
  | .octSetShift _ => .oct
  | .octSetMix _ => .oct
  | .octSetGain _ => .oct
  | .octGet _ => .oct
  | .octSwitch _ => .oct
  | .octProc _ _ => .oct
  | .octPeek _ => .oct
  | .pshInit _ => .psh
  | .pshSetShift _ => .psh
  | .pshSetMix _ => .psh
  | .pshSetGain _ => .psh
  | .pshGet _ => .psh
  | .pshSwitch _ => .psh
  | .pshProc _ _ => .psh
  | .pshPeek _ => .psh
  | .fbeInit _ => .fbe
  | .fbeSetDelayMs _ => .fbe
  | .fbeSetDecay _ => .fbe
  | .fbeSetGain _ => .fbe
  | .fbeSetDelaySmp _ => .fbe
  | .fbeGet _ => .fbe
  | .fbeSwitch _ => .fbe
  | .fbeProc _ _ => .fbe
  | .fbePeek _ => .fbe
  | .ffeInit _ => .ffe
  | .ffeSetDelayMs _ => .ffe
  | .ffeSetRepeats _ => .ffe
  | .ffeSetDecay _ => .ffe
  | .ffeSetGain _ => .ffe
  | .ffeSetDelaySmp _ => .ffe
  | .ffeGet _ => .ffe
  | .ffeSwitch _ => .ffe
  | .ffeProc _ _ => .ffe
  | .ffePeek _ => .ffe
  | .revInit _ => .rev
  | .revSetTime _ => .rev
  | .revSetGain _ => .rev
  | .revGet _ => .rev
  | .revSwitch _ => .rev
  | .revProc _ => .rev
  | .revPeek _ => .rev

/-- A command is well formed when its selector, if it has one, is in its unit's table (R54, R55). -/
def Instr.wellFormed : Instr → Bool
  | .glbNop => true
  | .glbPeek sel => decide (sel.toNat < npeek .glb)
  | .shbInit => true
  | .shbPush _ => true
  | .shbRead _ _ => true
  | .shbIndex _ _ => true
  | .shbPeek sel => decide (sel.toNat < npeek .shb)
  | .detInit _ => true
  | .detSetShift _ => true
  | .detSetMix _ => true
  | .detSetGain _ => true
  | .detGet sel => decide (sel.toNat < nparams .det)
  | .detSwitch _ => true
  | .detProc _ _ => true
  | .detPeek sel => decide (sel.toNat < npeek .det)
  | .octInit _ => true
  | .octSetShift _ => true
  | .octSetMix _ => true
  | .octSetGain _ => true
  | .octGet sel => decide (sel.toNat < nparams .oct)
  | .octSwitch _ => true
  | .octProc _ _ => true
  | .octPeek sel => decide (sel.toNat < npeek .oct)
  | .pshInit _ => true
  | .pshSetShift _ => true
  | .pshSetMix _ => true
  | .pshSetGain _ => true
  | .pshGet sel => decide (sel.toNat < nparams .psh)
  | .pshSwitch _ => true
  | .pshProc _ _ => true
  | .pshPeek sel => decide (sel.toNat < npeek .psh)
  | .fbeInit _ => true
  | .fbeSetDelayMs _ => true
  | .fbeSetDecay _ => true
  | .fbeSetGain _ => true
  | .fbeSetDelaySmp _ => true
  | .fbeGet sel => decide (sel.toNat < nparams .fbe)
  | .fbeSwitch _ => true
  | .fbeProc _ _ => true
  | .fbePeek sel => decide (sel.toNat < npeek .fbe)
  | .ffeInit _ => true
  | .ffeSetDelayMs _ => true
  | .ffeSetRepeats _ => true
  | .ffeSetDecay _ => true
  | .ffeSetGain _ => true
  | .ffeSetDelaySmp _ => true
  | .ffeGet sel => decide (sel.toNat < nparams .ffe)
  | .ffeSwitch _ => true
  | .ffeProc _ _ => true
  | .ffePeek sel => decide (sel.toNat < npeek .ffe)
  | .revInit _ => true
  | .revSetTime _ => true
  | .revSetGain _ => true
  | .revGet sel => decide (sel.toNat < nparams .rev)
  | .revSwitch _ => true
  | .revProc _ => true
  | .revPeek sel => decide (sel.toNat < npeek .rev)

end Sys2Proof
end

