-- ==== Sys2Proof/Decode.lean ====
section
/-! DEFINITION. Reading a command word (R49 to R56, R61, steps 1 to 4 of R142) and writing one. `decode` is total on all
2^64 words: it gives the command, or the fault code that rejects the word. `encode` is written from the same tables. The
byte order of a byte-wide transport (R37) is here too. -/

namespace Sys2Proof

/-- Bits 63:60 (R49). -/
def CommandWord.unitField (w : CommandWord) : BitVec 4 := w.extractLsb' 60 4
/-- Bits 59:56 (R49). -/
def CommandWord.opField (w : CommandWord) : BitVec 4 := w.extractLsb' 56 4
/-- Bits 55:48 (R49). -/
def CommandWord.selField (w : CommandWord) : BitVec 8 := w.extractLsb' 48 8
/-- Bits 47:32 (R49). -/
def CommandWord.auxField (w : CommandWord) : BitVec 16 := w.extractLsb' 32 16
/-- Bits 31:0 (R49). -/
def CommandWord.dataField (w : CommandWord) : Word32 := w.extractLsb' 0 32

/-- The number of a unit (R52). -/
def unitNumber : UnitId → Nat
  | .glb => 0
  | .shb => 1
  | .det => 2
  | .oct => 3
  | .psh => 4
  | .fbe => 5
  | .ffe => 6
  | .rev => 7

/-- What reading a word gives: the command, or the code that rejects the word. -/
abbrev Decoded := Except FaultCode Instr

/-- Format Z: `SEL`, `AUX` and `DATA` must be 0 (R51). -/
def formatZ (sel : BitVec 8) (aux : BitVec 16) (data : Word32) (i : Instr) : Decoded :=
  if sel = 0 ∧ aux = 0 ∧ data = 0 then .ok i else .error .eRsvd

/-- Format I: `SEL` and `AUX` must be 0, `DATA` is the sample rate (R51). -/
def formatI (sel : BitVec 8) (aux : BitVec 16) (data : Word32) (mk : Word32 → Instr) : Decoded :=
  if sel = 0 ∧ aux = 0 then .ok (mk data) else .error .eRsvd

/-- Format S, the selector already read: `AUX` must be 0, `DATA` is the parameter value (R51). -/
def formatS (aux : BitVec 16) (data : Word32) (mk : Word32 → Instr) : Decoded :=
  if aux = 0 then .ok (mk data) else .error .eRsvd

/-- Format G: a selector at or above `count` is E_SEL; `AUX` and `DATA` must be 0 (R51, R61). -/
def formatG (count : Nat) (sel : BitVec 8) (aux : BitVec 16) (data : Word32) (mk : BitVec 8 → Instr) : Decoded :=
  if sel.toNat < count then
    if aux = 0 ∧ data = 0 then .ok (mk sel) else .error .eRsvd
  else .error .eSel

/-- Format W: `SEL`, `AUX` and `DATA[31:1]` must be 0, `DATA[0]` is the operand (R51, R60). -/
def formatW (sel : BitVec 8) (aux : BitVec 16) (data : Word32) (mk : Bool → Instr) : Decoded :=
  if sel = 0 ∧ aux = 0 ∧ data.extractLsb' 1 31 = 0 then .ok (mk (data.getLsbD 0)) else .error .eRsvd

/-- Formats P and X: `SEL` must be 0, `AUX` is the cursor, `DATA` the sample or the offset (R51). -/
def formatP (sel : BitVec 8) (aux : BitVec 16) (data : Word32) (mk : BitVec 16 → Word32 → Instr) : Decoded :=
  if sel = 0 then .ok (mk aux data) else .error .eRsvd

/-- Format Q: `SEL` and `AUX` must be 0, `DATA` is the sample (R51). -/
def formatQ (sel : BitVec 8) (aux : BitVec 16) (data : Word32) (mk : Word32 → Instr) : Decoded :=
  if sel = 0 ∧ aux = 0 then .ok (mk data) else .error .eRsvd

/-- The commands of unit GLB (R53, R54, R55, R56): an operation the unit does not accept is E_OP. -/
def decodeGlb (op : BitVec 4) (sel : BitVec 8) (aux : BitVec 16) (data : Word32) : Decoded :=
  match op.toNat with
  | 0 => formatZ sel aux data .glbNop
  | 9 => formatG (npeek .glb) sel aux data .glbPeek
  | _ => .error .eOp

/-- The commands of unit SHB (R53, R54, R55, R56): an operation the unit does not accept is E_OP. -/
def decodeShb (op : BitVec 4) (sel : BitVec 8) (aux : BitVec 16) (data : Word32) : Decoded :=
  match op.toNat with
  | 1 => formatZ sel aux data .shbInit
  | 6 => formatQ sel aux data .shbPush
  | 7 => formatP sel aux data .shbRead
  | 8 => formatP sel aux data .shbIndex
  | 9 => formatG (npeek .shb) sel aux data .shbPeek
  | _ => .error .eOp

/-- The commands of unit DET (R53, R54, R55, R56): an operation the unit does not accept is E_OP. -/
def decodeDet (op : BitVec 4) (sel : BitVec 8) (aux : BitVec 16) (data : Word32) : Decoded :=
  match op.toNat with
  | 1 => formatI sel aux data .detInit
  | 2 =>
    match sel.toNat with
    | 0 => formatS aux data .detSetShift
    | 1 => formatS aux data .detSetMix
    | 2 => formatS aux data .detSetGain
    | _ => .error .eSel
  | 3 => formatG (nparams .det) sel aux data .detGet
  | 4 => formatW sel aux data .detSwitch
  | 5 => formatP sel aux data .detProc
  | 9 => formatG (npeek .det) sel aux data .detPeek
  | _ => .error .eOp

/-- The commands of unit OCT (R53, R54, R55, R56): an operation the unit does not accept is E_OP. -/
def decodeOct (op : BitVec 4) (sel : BitVec 8) (aux : BitVec 16) (data : Word32) : Decoded :=
  match op.toNat with
  | 1 => formatI sel aux data .octInit
  | 2 =>
    match sel.toNat with
    | 0 => formatS aux data .octSetShift
    | 1 => formatS aux data .octSetMix
    | 2 => formatS aux data .octSetGain
    | _ => .error .eSel
  | 3 => formatG (nparams .oct) sel aux data .octGet
  | 4 => formatW sel aux data .octSwitch
  | 5 => formatP sel aux data .octProc
  | 9 => formatG (npeek .oct) sel aux data .octPeek
  | _ => .error .eOp

/-- The commands of unit PSH (R53, R54, R55, R56): an operation the unit does not accept is E_OP. -/
def decodePsh (op : BitVec 4) (sel : BitVec 8) (aux : BitVec 16) (data : Word32) : Decoded :=
  match op.toNat with
  | 1 => formatI sel aux data .pshInit
  | 2 =>
    match sel.toNat with
    | 0 => formatS aux data .pshSetShift
    | 1 => formatS aux data .pshSetMix
    | 2 => formatS aux data .pshSetGain
    | _ => .error .eSel
  | 3 => formatG (nparams .psh) sel aux data .pshGet
  | 4 => formatW sel aux data .pshSwitch
  | 5 => formatP sel aux data .pshProc
  | 9 => formatG (npeek .psh) sel aux data .pshPeek
  | _ => .error .eOp

/-- The commands of unit FBE (R53, R54, R55, R56): an operation the unit does not accept is E_OP. -/
def decodeFbe (op : BitVec 4) (sel : BitVec 8) (aux : BitVec 16) (data : Word32) : Decoded :=
  match op.toNat with
  | 1 => formatI sel aux data .fbeInit
  | 2 =>
    match sel.toNat with
    | 0 => formatS aux data .fbeSetDelayMs
    | 1 => formatS aux data .fbeSetDecay
    | 2 => formatS aux data .fbeSetGain
    | 3 => formatS aux data .fbeSetDelaySmp
    | _ => .error .eSel
  | 3 => formatG (nparams .fbe) sel aux data .fbeGet
  | 4 => formatW sel aux data .fbeSwitch
  | 5 => formatP sel aux data .fbeProc
  | 9 => formatG (npeek .fbe) sel aux data .fbePeek
  | _ => .error .eOp

/-- The commands of unit FFE (R53, R54, R55, R56): an operation the unit does not accept is E_OP. -/
def decodeFfe (op : BitVec 4) (sel : BitVec 8) (aux : BitVec 16) (data : Word32) : Decoded :=
  match op.toNat with
  | 1 => formatI sel aux data .ffeInit
  | 2 =>
    match sel.toNat with
    | 0 => formatS aux data .ffeSetDelayMs
    | 1 => formatS aux data .ffeSetRepeats
    | 2 => formatS aux data .ffeSetDecay
    | 3 => formatS aux data .ffeSetGain
    | 4 => formatS aux data .ffeSetDelaySmp
    | _ => .error .eSel
  | 3 => formatG (nparams .ffe) sel aux data .ffeGet
  | 4 => formatW sel aux data .ffeSwitch
  | 5 => formatP sel aux data .ffeProc
  | 9 => formatG (npeek .ffe) sel aux data .ffePeek
  | _ => .error .eOp

/-- The commands of unit REV (R53, R54, R55, R56): an operation the unit does not accept is E_OP. -/
def decodeRev (op : BitVec 4) (sel : BitVec 8) (aux : BitVec 16) (data : Word32) : Decoded :=
  match op.toNat with
  | 1 => formatI sel aux data .revInit
  | 2 =>
    match sel.toNat with
    | 0 => formatS aux data .revSetTime
    | 1 => formatS aux data .revSetGain
    | _ => .error .eSel
  | 3 => formatG (nparams .rev) sel aux data .revGet
  | 4 => formatW sel aux data .revSwitch
  | 5 => formatQ sel aux data .revProc
  | 9 => formatG (npeek .rev) sel aux data .revPeek
  | _ => .error .eOp

/-- The command in a word, or the lowest fault code that applies to the word alone (R56, R61, steps 1 to 4 of R142). -/
def decode (w : CommandWord) : Decoded :=
  let op := CommandWord.opField w
  let sel := CommandWord.selField w
  let aux := CommandWord.auxField w
  let data := CommandWord.dataField w
  match (CommandWord.unitField w).toNat with
  | 0 => decodeGlb op sel aux data
  | 1 => decodeShb op sel aux data
  | 2 => decodeDet op sel aux data
  | 3 => decodeOct op sel aux data
  | 4 => decodePsh op sel aux data
  | 5 => decodeFbe op sel aux data
  | 6 => decodeFfe op sel aux data
  | 7 => decodeRev op sel aux data
  | _ => .error .eUnit

/-- The five fields put together, `UNIT` in the highest bits (R49). -/
def packWord (unit op : BitVec 4) (sel : BitVec 8) (aux : BitVec 16) (data : Word32) : CommandWord :=
  unit ++ op ++ sel ++ aux ++ data

/-- The `DATA` field of a SWITCH (R60). -/
def switchData (on : Bool) : Word32 := if on then 1 else 0

/-- The command word of a command: its row's `UNIT`, `OP` and `SEL`, its operands, and 0 in every field its format does
not use (R51, R56). -/
def encode : Instr → CommandWord
  | .glbNop => packWord 0 0 0 0 0
  | .glbPeek sel => packWord 0 9 sel 0 0
  | .shbInit => packWord 1 1 0 0 0
  | .shbPush x => packWord 1 6 0 0 x
  | .shbRead c o => packWord 1 7 0 c o
  | .shbIndex c o => packWord 1 8 0 c o
  | .shbPeek sel => packWord 1 9 sel 0 0
  | .detInit fs => packWord 2 1 0 0 fs
  | .detSetShift v => packWord 2 2 0 0 v
  | .detSetMix v => packWord 2 2 1 0 v
  | .detSetGain v => packWord 2 2 2 0 v
  | .detGet sel => packWord 2 3 sel 0 0
  | .detSwitch on => packWord 2 4 0 0 (switchData on)
  | .detProc c x => packWord 2 5 0 c x
  | .detPeek sel => packWord 2 9 sel 0 0
  | .octInit fs => packWord 3 1 0 0 fs
  | .octSetShift v => packWord 3 2 0 0 v
  | .octSetMix v => packWord 3 2 1 0 v
  | .octSetGain v => packWord 3 2 2 0 v
  | .octGet sel => packWord 3 3 sel 0 0
  | .octSwitch on => packWord 3 4 0 0 (switchData on)
  | .octProc c x => packWord 3 5 0 c x
  | .octPeek sel => packWord 3 9 sel 0 0
  | .pshInit fs => packWord 4 1 0 0 fs
  | .pshSetShift v => packWord 4 2 0 0 v
  | .pshSetMix v => packWord 4 2 1 0 v
  | .pshSetGain v => packWord 4 2 2 0 v
  | .pshGet sel => packWord 4 3 sel 0 0
  | .pshSwitch on => packWord 4 4 0 0 (switchData on)
  | .pshProc c x => packWord 4 5 0 c x
  | .pshPeek sel => packWord 4 9 sel 0 0
  | .fbeInit fs => packWord 5 1 0 0 fs
  | .fbeSetDelayMs v => packWord 5 2 0 0 v
  | .fbeSetDecay v => packWord 5 2 1 0 v
  | .fbeSetGain v => packWord 5 2 2 0 v
  | .fbeSetDelaySmp v => packWord 5 2 3 0 v
  | .fbeGet sel => packWord 5 3 sel 0 0
  | .fbeSwitch on => packWord 5 4 0 0 (switchData on)
  | .fbeProc c x => packWord 5 5 0 c x
  | .fbePeek sel => packWord 5 9 sel 0 0
  | .ffeInit fs => packWord 6 1 0 0 fs
  | .ffeSetDelayMs v => packWord 6 2 0 0 v
  | .ffeSetRepeats v => packWord 6 2 1 0 v
  | .ffeSetDecay v => packWord 6 2 2 0 v
  | .ffeSetGain v => packWord 6 2 3 0 v
  | .ffeSetDelaySmp v => packWord 6 2 4 0 v
  | .ffeGet sel => packWord 6 3 sel 0 0
  | .ffeSwitch on => packWord 6 4 0 0 (switchData on)
  | .ffeProc c x => packWord 6 5 0 c x
  | .ffePeek sel => packWord 6 9 sel 0 0
  | .revInit fs => packWord 7 1 0 0 fs
  | .revSetTime v => packWord 7 2 0 0 v
  | .revSetGain v => packWord 7 2 1 0 v
  | .revGet sel => packWord 7 3 sel 0 0
  | .revSwitch on => packWord 7 4 0 0 (switchData on)
  | .revProc x => packWord 7 5 0 0 x
  | .revPeek sel => packWord 7 9 sel 0 0

/-- The eight bytes of a word on a byte-wide transport, byte 0 (bits 7:0) first (R37). -/
def bytesOfWord (w : BitVec 64) : List (BitVec 8) :=
  [w.extractLsb' 0 8, w.extractLsb' 8 8, w.extractLsb' 16 8, w.extractLsb' 24 8,
   w.extractLsb' 32 8, w.extractLsb' 40 8, w.extractLsb' 48 8, w.extractLsb' 56 8]

/-- The word that eight bytes of a byte-wide transport carry (R37). A command word is one indivisible unit of 64 bits, so
any other number of bytes is no word (R38). -/
def wordOfBytes : List (BitVec 8) → Option (BitVec 64)
  | [b0, b1, b2, b3, b4, b5, b6, b7] => some (b7 ++ b6 ++ b5 ++ b4 ++ b3 ++ b2 ++ b1 ++ b0)
  | _ => none

/-- The command the decoder reads from a row's bits, numbered as the opcode table numbers them: the `nbits` low bits of
`w` as one 64-bit word, laid out in the transport's byte order. -/
def decodeTableWord (nbits w : Nat) : Option Instr :=
  if nbits ≤ 64 then
    (wordOfBytes (bytesOfWord (BitVec.ofNat 64 (w % 2 ^ nbits)))).bind fun cw => (decode cw).toOption
  else none

end Sys2Proof
end

