-- ==== Sys2Proof/Machine/Rom.lean ====
section
/-! DEFINITION. The two ROMs and the constant of 31_rom_tables.md: `P2N` (R64), the contents of `SINQ` in both fixed
configurations (R67), and `KX` (R66). -/

namespace Sys2Proof.Machine

/-- Entries 0 to 31 of `P2N` (R64). -/
def p2nTablePart0 : List Nat :=
  [32768, 32679, 32591, 32502, 32415, 32327, 32239, 32152,
   32065, 31979, 31892, 31806, 31720, 31634, 31549, 31463,
   31378, 31293, 31209, 31124, 31040, 30956, 30873, 30789,
   30706, 30623, 30540, 30457, 30375, 30293, 30211, 30129]

/-- Entries 32 to 63 of `P2N` (R64). -/
def p2nTablePart1 : List Nat :=
  [30048, 29967, 29886, 29805, 29724, 29644, 29564, 29484,
   29404, 29325, 29245, 29166, 29087, 29009, 28930, 28852,
   28774, 28696, 28619, 28541, 28464, 28387, 28310, 28234,
   28157, 28081, 28005, 27930, 27854, 27779, 27704, 27629]

/-- Entries 64 to 95 of `P2N` (R64). -/
def p2nTablePart2 : List Nat :=
  [27554, 27479, 27405, 27331, 27257, 27183, 27110, 27037,
   26964, 26891, 26818, 26745, 26673, 26601, 26529, 26457,
   26386, 26314, 26243, 26172, 26102, 26031, 25961, 25890,
   25820, 25751, 25681, 25611, 25542, 25473, 25404, 25336]

/-- Entries 96 to 127 of `P2N` (R64). -/
def p2nTablePart3 : List Nat :=
  [25267, 25199, 25131, 25063, 24995, 24927, 24860, 24793,
   24726, 24659, 24592, 24526, 24459, 24393, 24327, 24261,
   24196, 24130, 24065, 24000, 23935, 23870, 23806, 23742,
   23677, 23613, 23549, 23486, 23422, 23359, 23296, 23233]

/-- Entries 128 to 159 of `P2N` (R64). -/
def p2nTablePart4 : List Nat :=
  [23170, 23107, 23045, 22983, 22920, 22858, 22797, 22735,
   22673, 22612, 22551, 22490, 22429, 22369, 22308, 22248,
   22188, 22128, 22068, 22008, 21949, 21889, 21830, 21771,
   21712, 21653, 21595, 21537, 21478, 21420, 21362, 21305]

/-- Entries 160 to 191 of `P2N` (R64). -/
def p2nTablePart5 : List Nat :=
  [21247, 21189, 21132, 21075, 21018, 20961, 20905, 20848,
   20792, 20735, 20679, 20623, 20568, 20512, 20457, 20401,
   20346, 20291, 20236, 20181, 20127, 20073, 20018, 19964,
   19910, 19856, 19803, 19749, 19696, 19642, 19589, 19536]

/-- Entries 192 to 223 of `P2N` (R64). -/
def p2nTablePart6 : List Nat :=
  [19483, 19431, 19378, 19326, 19274, 19221, 19169, 19118,
   19066, 19014, 18963, 18912, 18861, 18810, 18759, 18708,
   18657, 18607, 18557, 18506, 18456, 18407, 18357, 18307,
   18258, 18208, 18159, 18110, 18061, 18012, 17963, 17915]

/-- Entries 224 to 255 of `P2N` (R64). -/
def p2nTablePart7 : List Nat :=
  [17866, 17818, 17770, 17722, 17674, 17626, 17578, 17531,
   17484, 17436, 17389, 17342, 17295, 17248, 17202, 17155,
   17109, 17063, 17016, 16970, 16925, 16879, 16833, 16788,
   16742, 16697, 16652, 16607, 16562, 16517, 16472, 16428]

/-- Entries 256 to 256 of `P2N` (R64). -/
def p2nTablePart8 : List Nat :=
  [16384]

/-- `P2N` (R64), entries 0 to 256. -/
def p2nTable : List Nat :=
  p2nTablePart0 ++ p2nTablePart1 ++ p2nTablePart2 ++ p2nTablePart3 ++ p2nTablePart4 ++ p2nTablePart5 ++ p2nTablePart6 ++ p2nTablePart7 ++ p2nTablePart8

/-- `P2N[f]`, defined for `0 ≤ f ≤ 256` (R64). -/
def p2n (f : Nat) : Nat := p2nTable.getD f 0

/-- `KX`, the integer nearest to `3000 · log2(10) · 65536` (R66). -/
def kx : Nat := 653117639

/-- Entries 0 to 31 of `SINQ` (R67). -/
def sinqTablePart0 : List Nat :=
  [0, 201, 402, 603, 804, 1005, 1206, 1407,
   1608, 1809, 2009, 2210, 2410, 2611, 2811, 3012,
   3212, 3412, 3612, 3811, 4011, 4210, 4410, 4609,
   4808, 5007, 5205, 5404, 5602, 5800, 5998, 6195]

/-- Entries 32 to 63 of `SINQ` (R67). -/
def sinqTablePart1 : List Nat :=
  [6393, 6590, 6786, 6983, 7179, 7375, 7571, 7767,
   7962, 8157, 8351, 8545, 8739, 8933, 9126, 9319,
   9512, 9704, 9896, 10087, 10278, 10469, 10659, 10849,
   11039, 11228, 11417, 11605, 11793, 11980, 12167, 12353]

/-- Entries 64 to 95 of `SINQ` (R67). -/
def sinqTablePart2 : List Nat :=
  [12539, 12725, 12910, 13094, 13279, 13462, 13645, 13828,
   14010, 14191, 14372, 14553, 14732, 14912, 15090, 15269,
   15446, 15623, 15800, 15976, 16151, 16325, 16499, 16673,
   16846, 17018, 17189, 17360, 17530, 17700, 17869, 18037]

/-- Entries 96 to 127 of `SINQ` (R67). -/
def sinqTablePart3 : List Nat :=
  [18204, 18371, 18537, 18703, 18868, 19032, 19195, 19357,
   19519, 19680, 19841, 20000, 20159, 20317, 20475, 20631,
   20787, 20942, 21096, 21250, 21403, 21554, 21705, 21856,
   22005, 22154, 22301, 22448, 22594, 22739, 22884, 23027]

/-- Entries 128 to 159 of `SINQ` (R67). -/
def sinqTablePart4 : List Nat :=
  [23170, 23311, 23452, 23592, 23731, 23870, 24007, 24143,
   24279, 24413, 24547, 24680, 24811, 24942, 25072, 25201,
   25329, 25456, 25582, 25708, 25832, 25955, 26077, 26198,
   26319, 26438, 26556, 26674, 26790, 26905, 27019, 27133]

/-- Entries 160 to 191 of `SINQ` (R67). -/
def sinqTablePart5 : List Nat :=
  [27245, 27356, 27466, 27575, 27683, 27790, 27896, 28001,
   28105, 28208, 28310, 28411, 28510, 28609, 28706, 28803,
   28898, 28992, 29085, 29177, 29268, 29358, 29447, 29534,
   29621, 29706, 29791, 29874, 29956, 30037, 30117, 30195]

/-- Entries 192 to 223 of `SINQ` (R67). -/
def sinqTablePart6 : List Nat :=
  [30273, 30349, 30424, 30498, 30571, 30643, 30714, 30783,
   30852, 30919, 30985, 31050, 31113, 31176, 31237, 31297,
   31356, 31414, 31470, 31526, 31580, 31633, 31685, 31736,
   31785, 31833, 31880, 31926, 31971, 32014, 32057, 32098]

/-- Entries 224 to 255 of `SINQ` (R67). -/
def sinqTablePart7 : List Nat :=
  [32137, 32176, 32213, 32250, 32285, 32318, 32351, 32382,
   32412, 32441, 32469, 32495, 32521, 32545, 32567, 32589,
   32609, 32628, 32646, 32663, 32678, 32692, 32705, 32717,
   32728, 32737, 32745, 32752, 32757, 32761, 32765, 32766]

/-- Entries 256 to 256 of `SINQ` (R67). -/
def sinqTablePart8 : List Nat :=
  [32767]

/-- `SINQ` (R67), entries 0 to 256. -/
def sinqTable : List Nat :=
  sinqTablePart0 ++ sinqTablePart1 ++ sinqTablePart2 ++ sinqTablePart3 ++ sinqTablePart4 ++ sinqTablePart5 ++ sinqTablePart6 ++ sinqTablePart7 ++ sinqTablePart8

end Sys2Proof.Machine
end

