-- ==== Sys2Proof/Machine/Arith.lean ====
section
/-! DEFINITION. The arithmetic primitives of 00_scope.md (R10 to R17) and 31_rom_tables.md (R65): exact integers, with
every narrowing written out. -/

namespace Sys2Proof.Machine

/-- `clamp(v, lo, hi) = max(lo, min(hi, v))`, for `lo ≤ hi` (R11). -/
def clamp (v lo hi : Int) : Int := max lo (min hi v)

/-- `clamp16`, hard clamping to the range of a sample (R11). -/
def clamp16 (v : Int) : Int := clamp v (-32768) 32767

/-- The clamp of non-negative integers (R11). -/
def clampNat (v lo hi : Nat) : Nat := max lo (min hi v)

/-- Division of `a` by `b > 0` rounded toward zero (R13). -/
def tdiv (a b : Int) : Int := if 0 ≤ a then a / b else -((-a) / b)

/-- `tq15(a) = tdiv(a, 32768)`, the scaling of a sum of Q15 products back to a sample (R12, R13). -/
def tq15 (a : Int) : Int := tdiv a 32768

/-- One binary digit of the square root a time, from digit `k - 1` down: the greatest `s` that agrees with the digits
found so far and has `s · s ≤ v` (R14). -/
def isqrtDigits (v : Nat) : Nat → Nat → Nat
  | 0, s => s
  | k + 1, s => isqrtDigits v k (if (s + 2 ^ k) * (s + 2 ^ k) ≤ v then s + 2 ^ k else s)

/-- The greatest integer `s` with `s · s ≤ v` (R14). -/
def isqrt (v : Nat) : Nat := isqrtDigits v (v.log2 / 2 + 1) 0

/-- The ring read index, for `c < n` and `o < n` (R16, R68). -/
def ring (c o n : Nat) : Nat := if o ≤ c then c - o else n - o + c

/-- `pow2neg_q15(X)`, an approximation of `32768 · 2^(-X/65536)` (R65). -/
def pow2negQ15 (x : Nat) : Nat :=
  let n := x / 65536
  let f := x / 256 % 256
  let r := x % 256
  let a := p2n f
  let b := p2n (f + 1)
  let v := a - (a - b) * r / 256
  if n < 16 then v / 2 ^ n else 0

/-- `sext_16(y mod 65536)`: the low 16 bits of `y` read as two's complement (R10, R92). -/
def wrap16 (y : Int) : Int := (BitVec.ofInt 16 y).toInt

/-- The sum of the four elements. -/
def quadSum (t : Quad Int) : Int := t.q0 + t.q1 + t.q2 + t.q3

end Sys2Proof.Machine
end

