-- ==== Sys2Proof/Config.lean ====
section
/-! DEFINITION. The configuration record of GSP-CORE (R8): the shape only. The values of the two fixed configurations
and the constraints of a legal one stand in `Sys2Proof.Machine.Params`. No value of the spec is left open in a legal
configuration, so there is no free value here. -/

namespace Sys2Proof

/-- The crossfade law `XF_g` of a grain unit: 0 LINEAR, 1 EQPOWER (R8). -/
inductive Crossfade where
  | linear | eqPower
  deriving DecidableEq, Repr

/-- The parameters of one grain unit (R8): `C_g`, `B_g`, `XF_g`, `SHIFT_MIN_g`, `SHIFT_MAX_g`, `SHIFT_DEF_g`. -/
structure GrainConfig where
  cycle : Nat
  blend : Nat
  xf : Crossfade
  shiftMin : Nat
  shiftMax : Nat
  shiftDef : Nat
  deriving DecidableEq, Repr

/-- The configuration record (R8). `K_MIN` is fixed at 10 and `L = N / 4` is derived, so neither is a field. -/
structure Config where
  /-- `N`, the capacity of HB in samples. -/
  n : Nat
  det : GrainConfig
  oct : GrainConfig
  psh : GrainConfig
  /-- `MIX_DEF`, Q15. -/
  mixDef : Nat
  /-- `GGAIN_DEF`, Q15. -/
  ggainDef : Nat
  /-- `M_0..M_3`, the delay lengths of the reverberator's lines. -/
  m : Quad Nat
  /-- `T60NY`, milliseconds. -/
  t60ny : Nat
  /-- `TCA`, Q15. -/
  tca : Nat
  /-- `TCB`, Q15. -/
  tcb : Nat
  /-- `KFB`, Q15. -/
  kfb : Nat
  /-- `FS_MIN`, Hz. -/
  fsMin : Nat
  /-- `FS_MAX`, Hz. -/
  fsMax : Nat
  /-- `MS_MAX`, milliseconds. -/
  msMax : Nat
  /-- `RT_MAX`, milliseconds. -/
  rtMax : Nat
  /-- `DECAY_FB_MAX`, Q15. -/
  decayFbMax : Nat
  /-- `FB_DEF`: delay in milliseconds, decay, gain. -/
  fbDefMs : Nat
  fbDefDecay : Nat
  fbDefGain : Nat
  /-- `FF_DEF`: delay in milliseconds, repeats, decay, gain. -/
  ffDefMs : Nat
  ffDefRepeats : Nat
  ffDefDecay : Nat
  ffDefGain : Nat
  /-- `RV_DEF`: time in milliseconds, gain. -/
  rvDefTime : Nat
  rvDefGain : Nat
  /-- `SINQ[0..256]`, the quarter-wave sine ROM. -/
  sinq : List Nat
  deriving DecidableEq, Repr

end Sys2Proof
end

