-- ==== Sys2Proof/Machine/Params.lean ====
section
/-! DEFINITION. The values of the configuration record: `K_MIN`, the two fixed configurations DEFAULT and TINY, and the
constraints of a legal configuration (R8). -/

namespace Sys2Proof

/-- `K_MIN`, the least legal tap offset, fixed at 10 (R8). -/
def kMin : Nat := 10

/-- `L = N / 4`, the length of each private line of the reverberator (R8). -/
def Config.lineLen (c : Config) : Nat := c.n / 4

/-- The parameters of grain unit `g` (R8). -/
def Config.grain (c : Config) : GrainId → GrainConfig
  | .det => c.det
  | .oct => c.oct
  | .psh => c.psh

/-- `SINQ[j]`, defined for `0 ≤ j ≤ 256` (R67). -/
def Config.sin (c : Config) (j : Nat) : Nat := c.sinq.getD j 0

/-- The identification value (R2, R139). -/
def idValue : Nat := 0x47535007

/-- The identifier of the block (R2). -/
def versionString : String := "GSPCORE-1"

/-- Configuration DEFAULT, the values decided for the hardware (R8). -/
def Config.default : Config where
  n := 48000
  det := { cycle := 3000, blend := 750, xf := .linear, shiftMin := 0, shiftMax := 100, shiftDef := 10 }
  oct := { cycle := 4000, blend := 1000, xf := .linear, shiftMin := 1200, shiftMax := 1200, shiftDef := 1200 }
  psh := { cycle := 4000, blend := 1000, xf := .eqPower, shiftMin := 0, shiftMax := 1200, shiftDef := 700 }
  mixDef := 16384
  ggainDef := 32768
  m := ⟨1031, 1327, 1523, 1871⟩
  t60ny := 500
  tca := 655
  tcb := 16384
  kfb := 32768
  fsMin := 8000
  fsMax := 192000
  msMax := 10000
  rtMax := 10000
  decayFbMax := 31129
  fbDefMs := 250
  fbDefDecay := 16384
  fbDefGain := 32768
  ffDefMs := 250
  ffDefRepeats := 3
  ffDefDecay := 16384
  ffDefGain := 32768
  rvDefTime := 2000
  rvDefGain := 8192
  sinq := Machine.sinqTable

/-- Configuration TINY, used so that test vectors can be listed in full (R8): DEFAULT but for the sizes. -/
def Config.tiny : Config :=
  { Config.default with
    n := 64
    det := { Config.default.det with cycle := 12, blend := 3 }
    oct := { Config.default.oct with cycle := 16, blend := 4 }
    psh := { Config.default.psh with cycle := 16, blend := 4 }
    m := ⟨3, 5, 7, 11⟩
    t60ny := 2 }

/-- The constraints on the parameters of a grain unit in a buffer of `n` cells (R8). -/
abbrev GrainConfig.Legal (g : GrainConfig) (n : Nat) : Prop :=
  1 ≤ g.cycle ∧ 1 ≤ g.blend ∧ g.blend ≤ g.cycle ∧ g.cycle + g.blend + kMin + 1 ≤ n ∧
  g.shiftMin ≤ g.shiftMax ∧ g.shiftMax ≤ 1200 ∧ g.shiftMin ≤ g.shiftDef ∧ g.shiftDef ≤ g.shiftMax

/-- A legal configuration: every constraint of the parameter table of R8 holds. The defaults FB_DEF, FF_DEF and RV_DEF
are "in range" when each lies in the range of its parameter (R54). -/
abbrev Config.Legal (c : Config) : Prop :=
  c.n % 4 = 0 ∧ c.n ≤ 65536 ∧ kMin ≤ c.n - 1 ∧
  c.det.Legal c.n ∧ c.oct.Legal c.n ∧ c.psh.Legal c.n ∧
  c.mixDef ≤ 32768 ∧ c.ggainDef ≤ 32768 ∧
  (c.m.Forall fun m => 1 ≤ m ∧ m + 1 ≤ c.lineLen) ∧
  1 ≤ c.t60ny ∧ c.tca ≤ 32768 ∧ c.tcb ≤ 32768 ∧ c.kfb ≤ 32768 ∧
  1 ≤ c.fsMin ∧ c.fsMin ≤ c.fsMax ∧ c.decayFbMax = 31129 ∧
  c.fbDefMs ≤ c.msMax ∧ c.fbDefDecay ≤ c.decayFbMax ∧ c.fbDefGain ≤ 32768 ∧
  c.ffDefMs ≤ c.msMax ∧ 1 ≤ c.ffDefRepeats ∧ c.ffDefRepeats ≤ 8 ∧ c.ffDefDecay ≤ 32768 ∧ c.ffDefGain ≤ 32768 ∧
  c.rvDefTime ≤ c.rtMax ∧ c.rvDefGain ≤ 32768 ∧
  c.sinq.length = 257 ∧ ∀ e ∈ c.sinq, e ≤ 32767

end Sys2Proof
end

