-- ==== Sys2Proof/Machine/State.lean ====
section
/-! DEFINITION. The whole state of GSP-CORE (R19), as plain data, the reasons the model stops, and hardware reset (R150).
Registers hold exact integers: the widths of 10_state.md are facts about their ranges (R10, log 8). -/

namespace Sys2Proof.Machine

/-- A memory of samples: the cells whose value is not 0, as (index, sample) pairs with indexes strictly rising. A cell
that is not listed reads 0 (log 7). -/
abbrev Memory := List (Nat × Sample)

/-- Unit SHB (R28). -/
structure Shb where
  inited : Bool
  cur : Nat
  hb : Memory
  deriving DecidableEq, Repr

/-- A grain unit, DET, OCT or PSH (R29). -/
structure Grain where
  inited : Bool
  enable : Bool
  fs : Nat
  shift : Nat
  mix : Nat
  gain : Nat
  prq : Nat
  dy : Nat
  k1init : Nat
  k2init : Nat
  d1 : Int
  d2 : Int
  d3 : Int
  dryw : Nat
  wetw : Nat
  i : Nat
  k1 : Nat
  k2 : Nat
  d : Int
  ad2 : Int
  ad3 : Int
  deriving DecidableEq, Repr

/-- Unit FBE (R30). -/
structure Fbe where
  inited : Bool
  enable : Bool
  fs : Nat
  ms : Nat
  off : Nat
  decay : Nat
  gain : Nat
  scale : Nat
  deriving DecidableEq, Repr

/-- Unit FFE (R31). -/
structure Ffe where
  inited : Bool
  enable : Bool
  fs : Nat
  ms : Nat
  off : Nat
  repeats : Nat
  decay : Nat
  gain : Nat
  scale : Nat
  w : Octet Nat
  deriving DecidableEq, Repr

/-- Unit REV with its four private lines (R32, R33, R35). -/
structure Rev where
  inited : Bool
  enable : Bool
  fs : Nat
  time : Nat
  gain : Nat
  gdc : Quad Nat
  gny : Quad Nat
  gc : Quad Nat
  gp : Quad Nat
  rcur : Nat
  z : Quad Int
  tcz : Int
  rb : Quad Memory
  deriving DecidableEq, Repr

/-- What the host's side presents at the block between two steps: a command word at the command port (R20, R49), or
hardware reset asserted by the platform (R150). -/
inductive Input where
  | command (w : CommandWord)
  | hardReset
  deriving DecidableEq, Repr

/-- The state. The units and `status` are the architectural state of R19. The first three fields are the model's own:
the configuration record that R20's `step` takes as an argument (log 3), the inputs presented and not yet accepted,
oldest first (log 1), and the responses given so far, newest first (log 2). -/
structure State where
  cfg : Config
  pending : List Input
  responses : List ResponseWord
  status : BitVec 32
  shb : Shb
  det : Grain
  oct : Grain
  psh : Grain
  fbe : Fbe
  ffe : Ffe
  rev : Rev
  deriving DecidableEq, Repr

/-- Why the machine stops. The six fault codes of R140 are no such reason: a command that faults is answered and the
block goes on (R141). Both constructors are raised only in states that no run from reset reaches (R39, R140). -/
inductive Fault where
  /-- An index formed from a register falls outside HB or RB: raised by PROC of a unit, SHB.PUSH and SHB.READ, in a state
  whose register breaks its range. Safe: R39 defines no behaviour for such an access. -/
  | indexOutOfRange
  /-- A divisor register is 0: raised by SET.DELAY_SMP and by SET of REV, in a state whose `FS` breaks its range. Safe:
  R140 says that no division has a zero divisor. -/
  | divisorZero
  deriving DecidableEq, Repr

/-- Why the model gives no next state to a command it was given. -/
inductive Refusal where
  /-- The configuration record breaks a constraint of R8: raised by the step. Safe: "a model refuses an illegal one". -/
  | illegalConfig
  /-- A command of the opcode table without a meaning: raised by a refused arm of `exec`. Safe. -/
  | notModelled (mnemonic : String)
  deriving DecidableEq, Repr

/-- What a meaning and a step answer. -/
abbrev Result := Host.Outcome State Fault Refusal

/-- SHB after hardware reset (R28, R150; log 6, log 7). -/
def Shb.reset : Shb := { inited := false, cur := 0, hb := [] }

/-- A grain unit after hardware reset (R29, R150; log 6). -/
def Grain.reset : Grain :=
  { inited := false, enable := false, fs := 0, shift := 0, mix := 0, gain := 0, prq := 0, dy := 0, k1init := 0,
    k2init := 0, d1 := 0, d2 := 0, d3 := 0, dryw := 0, wetw := 0, i := 0, k1 := 0, k2 := 0, d := 0, ad2 := 0, ad3 := 0 }

/-- FBE after hardware reset (R30, R150; log 6). -/
def Fbe.reset : Fbe :=
  { inited := false, enable := false, fs := 0, ms := 0, off := 0, decay := 0, gain := 0, scale := 0 }

/-- FFE after hardware reset (R31, R150; log 6). -/
def Ffe.reset : Ffe :=
  { inited := false, enable := false, fs := 0, ms := 0, off := 0, repeats := 0, decay := 0, gain := 0, scale := 0,
    w := ⟨0, 0, 0, 0, 0, 0, 0, 0⟩ }

/-- REV after hardware reset (R32, R150; log 6, log 7). -/
def Rev.reset : Rev :=
  { inited := false, enable := false, fs := 0, time := 0, gain := 0, gdc := Quad.all 0, gny := Quad.all 0,
    gc := Quad.all 0, gp := Quad.all 0, rcur := 0, z := Quad.all 0, tcz := 0, rb := Quad.all [] }

/-- The block of configuration `cfg` right after hardware reset, with nothing presented to it (R150). -/
def State.resetWith (cfg : Config) : State :=
  { cfg := cfg, pending := [], responses := [], status := 0, shb := Shb.reset, det := Grain.reset, oct := Grain.reset,
    psh := Grain.reset, fbe := Fbe.reset, ffe := Ffe.reset, rev := Rev.reset }

/-- The hardware right after reset: configuration DEFAULT (R8, R150). -/
def State.reset : State := State.resetWith Config.default

end Sys2Proof.Machine
end

