-- ==== Sys2Proof/Machine/Flags.lean ====
section
/-! DEFINITION. The one flag register, STATUS (R23): its sticky bits and what sets them. -/

namespace Sys2Proof.Machine

/-- The number of a fault code, which is also the number of its STATUS bit (R140). -/
def codeNumber : FaultCode → Nat
  | .eUnit => 1
  | .eOp => 2
  | .eSel => 3
  | .eRsvd => 4
  | .eNoInit => 5
  | .eOperand => 6

/-- The number of GOVF (R23). -/
def govfBit : Nat := 8

/-- STATUS with bit `k` set; the other bits stay as they are, set bits stay set (R23). -/
def setStatusBit (k : Nat) (status : BitVec 32) : BitVec 32 := status ||| (1#32 <<< k)

/-- The bits of STATUS that exist: 1 to 6 and 8; every other bit always reads 0 (R23). -/
def statusMask : BitVec 32 := 0x17E

/-- STATUS after a grain PROC whose mix `y` was narrowed to `out`: GOVF is set when they differ (R90, R92). -/
def noteNarrowing (y out : Int) (status : BitVec 32) : BitVec 32 :=
  if out = y then status else setStatusBit govfBit status

end Sys2Proof.Machine
end

