-- ==== Sys2Proof/Machine/Ops.lean ====
section
/-! DEFINITION. The named operations over memory, registers and the command port: reading and writing one cell (R36),
reading a tap of HB (R68, R69), answering a command (R50), taking a fault (R141). A fault needs no return (R144). -/

namespace Sys2Proof.Machine

/-- The sample in cell `a`; a cell that is not listed reads 0 (R36; log 7). -/
def Memory.read : Memory → Nat → Sample
  | [], _ => 0
  | (i, v) :: m, a => if i = a then v else Memory.read m a

/-- Cell `a` gets `v`, in the canonical form: rising indexes, no cell that holds 0 (R36; log 7). -/
def Memory.write : Memory → Nat → Sample → Memory
  | [], a, v => if v = 0 then [] else [(a, v)]
  | (i, u) :: m, a, v =>
    if a < i then
      if v = 0 then (i, u) :: m else (a, v) :: (i, u) :: m
    else if a = i then
      if v = 0 then m else (a, v) :: m
    else (i, u) :: Memory.write m a v

/-- The canonical form: indexes strictly rising, no listed cell holds 0. -/
def Memory.wf : Memory → Bool
  | [] => true
  | [(_, v)] => v != 0
  | (i, v) :: (j, u) :: m => v != 0 && decide (i < j) && Memory.wf ((j, u) :: m)

/-- Every listed cell lies below `n`. -/
abbrev Memory.Below (m : Memory) (n : Nat) : Prop := ∀ c ∈ m, c.1 < n

/-- A sample value as a cell holds it; the value is in 16 bits before the write (R36). -/
def cellOf (v : Int) : Sample := BitVec.ofInt 16 v

/-- The grain unit `g` (R29). -/
def State.grain (s : State) : GrainId → Grain
  | .det => s.det
  | .oct => s.oct
  | .psh => s.psh

/-- The state with grain unit `g` replaced. -/
def State.setGrain (s : State) (g : GrainId) (u : Grain) : State :=
  match g with
  | .det => { s with det := u }
  | .oct => { s with oct := u }
  | .psh => { s with psh := u }

/-- An unsigned register or a plain number as a response value, zero-extended (R50). -/
def unsignedValue (v : Nat) : Word32 := BitVec.ofNat 32 v

/-- A sample or a signed register as a response value, sign-extended (R50). -/
def signedValue (v : Int) : Word32 := BitVec.ofInt 32 v

/-- A one-bit register as a response value (R50). -/
def bitValue (b : Bool) : Word32 := if b then 1 else 0

/-- The response word with fault code number `fault` and value `value`; bits 55:32 are 0 (R50). -/
def responseWord (fault : BitVec 8) (value : Word32) : ResponseWord := fault ++ (0 : BitVec 24) ++ value

/-- The state once the block has given the response `r` (R50). -/
def State.respond (s : State) (r : ResponseWord) : State := { s with responses := r :: s.responses }

/-- `return v`: the command ends without fault, with response value `v` (R15, R50). -/
def answer (v : Word32) (s : State) : Result := .next (s.respond (responseWord 0 v))

/-- The response to a command that faults: FAULT is the code, VALUE is 0 (R50, R141). -/
def faultWord (c : FaultCode) : ResponseWord := responseWord (BitVec.ofNat 8 (codeNumber c)) 0

/-- `raise Fault(c)`, the one way a fault is taken: the sticky STATUS bit of the code is set, the response carries the
code, and no other register and no memory cell changes (R15, R141). -/
def takeFault (c : FaultCode) (s : State) : Result :=
  .next (({ s with status := setStatusBit (codeNumber c) s.status }).respond (faultWord c))

/-- Gives `k` the sample at offset `o` behind cursor `c` in HB (R68, R69). `ring` is defined for `c` and `o` below `N`
only, and no command of a legal configuration evaluates it elsewhere (R39): there the machine stops (log 9). -/
def withTap (s : State) (c o : Nat) (k : Int → Result) : Result :=
  if c < s.cfg.n ∧ o < s.cfg.n then k (s.shb.hb.read (ring c o s.cfg.n)).toInt else .fault .indexOutOfRange

/-- The cursor one tick later in a ring of `n` cells (R71, R130). -/
def nextCursor (c n : Nat) : Nat := if c + 1 = n then 0 else c + 1

/-- Hardware reset of a running block: the state of R150, with the inputs still to come and the responses the host
already has. -/
def State.hardReset (s : State) : State :=
  { State.resetWith s.cfg with pending := s.pending, responses := s.responses }

/-- The host presents command word `w` at the port, before anything it presented earlier and the block has not accepted. -/
def State.presentCommand (s : State) (w : CommandWord) : State := { s with pending := .command w :: s.pending }

end Sys2Proof.Machine
end

