-- ==== Sys2Proof/Machine/Operands.lean ====
section
/-! DEFINITION. The operand forms (R51, R57 to R60), and the checks that a command makes before its own rule runs: steps
5 and 6 of R142, and step 3 for a selector outside its unit's table. -/

namespace Sys2Proof.Machine

/-- `sext_32(DATA)`: a parameter value, an offset, a sample rate or a sample (R10, R57, R58). -/
def dataValue (data : Word32) : Int := data.toInt

/-- A parameter value clamped into `[lo, hi]` by its setter (R18, R57). -/
def clampData (data : Word32) (lo hi : Nat) : Nat := (clamp (dataValue data) lo hi).toNat

/-- A sample operand is legal when it is a sign-extended 16-bit value (R58). -/
def sampleOk (data : Word32) : Bool := decide (-32768 ≤ dataValue data ∧ dataValue data ≤ 32767)

/-- A cursor operand is legal when it lies below `N` (R59). -/
def cursorOk (s : State) (c : BitVec 16) : Bool := decide (c.toNat < s.cfg.n)

/-- The offset of SHB.INDEX is legal when it lies in `[0, N)` (R73). -/
def offsetOk (s : State) (o : Word32) : Bool := decide (0 ≤ dataValue o ∧ dataValue o < s.cfg.n)

/-- Step 5 of R142: a command whose units are not initialised is answered with E_NOINIT. -/
def whenInited (inited : Bool) (s : State) (k : Result) : Result := if inited then k else takeFault .eNoInit s

/-- Step 6 of R142: a command with an illegal operand is answered with E_OPERAND. -/
def whenOperand (ok : Bool) (s : State) (k : Result) : Result := if ok then k else takeFault .eOperand s

/-- GET and PEEK: answers register number `sel` of the list, with no other change of state (R54, R55). A selector outside
the list, which the decoder never gives, is E_SEL, and it is so before E_NOINIT (R140, R142). -/
def readRegister (inited : Bool) (regs : List Word32) (sel : BitVec 8) (s : State) : Result :=
  match regs[sel.toNat]? with
  | some v => whenInited inited s (answer v s)
  | none => takeFault .eSel s

end Sys2Proof.Machine
end

