-- ==== Sys2Proof/Machine/Tap.lean ====
section
/-! DEFINITION. The DelayTap of the echo units: from milliseconds to samples and back (R75, R76, R77). -/

namespace Sys2Proof.Machine

/-- The tap offset of a delay of `ms` milliseconds at `fs` Hz: rounded to nearest, halves upward, and clamped into
`[K_MIN, N - 1]` (R76). -/
def tapOfMs (cfg : Config) (fs ms : Nat) : Nat := clampNat ((fs * ms + 500) / 1000) kMin (cfg.n - 1)

/-- The cached milliseconds of a tap of `off` samples at `fs` Hz, for `fs ≥ 1` (R77). -/
def msOfTap (cfg : Config) (fs off : Nat) : Nat := min cfg.msMax ((off * 1000 + fs / 2) / fs)

/-- The delay operand of SET.DELAY_MS, clamped (R76). -/
def delayMsOperand (cfg : Config) (v : Word32) : Nat := clampData v 0 cfg.msMax

/-- The tap operand of SET.DELAY_SMP, clamped (R77). -/
def delaySmpOperand (cfg : Config) (v : Word32) : Nat := clampData v kMin (cfg.n - 1)

/-- Goes on where the divisor `d` is not 0. No division has a zero divisor in a legal configuration (R140): elsewhere the
machine stops (log 9). -/
def withDivisor (d : Nat) (k : Result) : Result := if d = 0 then .fault .divisorZero else k

end Sys2Proof.Machine
end

