-- ==== Sys2Proof/Machine/Fbe.lean ====
section
/-! DEFINITION. Unit FBE, the feedback echo line (R98 to R107). -/

namespace Sys2Proof.Machine

/-- The recompute step: `SCALE` from `GAIN`, `DECAY` and `KFB` (R98). -/
def fbeRecompute (cfg : Config) (u : Fbe) : Fbe :=
  let s0 := isqrt (u.gain * u.gain * (2 ^ 30 - u.decay * u.decay)) / 32768
  { u with scale := cfg.kfb * s0 / 32768 }

/-- The end of a SET of FBE: the recompute step, and the response 0. -/
def fbeSet (u : Fbe) (s : State) : Result := answer 0 { s with fbe := fbeRecompute s.cfg u }

/-- FBE.INIT (R99). -/
def execFbeInit (fs : Word32) (s : State) : Result :=
  let cfg := s.cfg
  let f := clampData fs cfg.fsMin cfg.fsMax
  let ms := clampNat cfg.fbDefMs 0 cfg.msMax
  let u := { s.fbe with
    fs := f
    ms := ms
    off := tapOfMs cfg f ms
    decay := cfg.fbDefDecay
    gain := cfg.fbDefGain }
  answer 0 { s with fbe := { fbeRecompute cfg u with enable := false, inited := true } }

/-- FBE.SET.DELAY_MS (R76, R100). -/
def execFbeSetDelayMs (v : Word32) (s : State) : Result :=
  let ms := delayMsOperand s.cfg v
  whenInited s.fbe.inited s <| fbeSet { s.fbe with ms := ms, off := tapOfMs s.cfg s.fbe.fs ms } s

/-- FBE.SET.DECAY (R101). -/
def execFbeSetDecay (v : Word32) (s : State) : Result :=
  whenInited s.fbe.inited s <| fbeSet { s.fbe with decay := clampData v 0 s.cfg.decayFbMax } s

/-- FBE.SET.GAIN (R102). -/
def execFbeSetGain (v : Word32) (s : State) : Result :=
  whenInited s.fbe.inited s <| fbeSet { s.fbe with gain := clampData v 0 32768 } s

/-- FBE.SET.DELAY_SMP (R77, R103). -/
def execFbeSetDelaySmp (v : Word32) (s : State) : Result :=
  let off := delaySmpOperand s.cfg v
  whenInited s.fbe.inited s <|
  withDivisor s.fbe.fs <| fbeSet { s.fbe with off := off, ms := msOfTap s.cfg s.fbe.fs off } s

/-- The parameters of FBE in the order of their selectors (R54, R104). -/
def fbeParams (u : Fbe) : List Word32 :=
  [unsignedValue u.ms, unsignedValue u.decay, unsignedValue u.gain, unsignedValue u.off]

/-- FBE.GET (R104). -/
def execFbeGet (sel : BitVec 8) (s : State) : Result := readRegister s.fbe.inited (fbeParams s.fbe) sel s

/-- FBE.SWITCH: only `ENABLE` changes (R105). -/
def execFbeSwitch (on : Bool) (s : State) : Result :=
  whenInited s.fbe.inited s <| answer 0 { s with fbe := { s.fbe with enable := on } }

/-- The output of the feedback echo for sample `x` and tap `tap` (R106). -/
def fbeOutput (u : Fbe) (x tap : Int) : Int := clamp16 (tq15 (u.scale * x + u.decay * tap))

/-- FBE.PROC: writes no register and no memory (R106). -/
def execFbeProc (c : BitVec 16) (x : Word32) (s : State) : Result :=
  whenInited (s.fbe.inited && s.shb.inited) s <|
  whenOperand (cursorOk s c && sampleOk x) s <|
  withTap s c.toNat s.fbe.off fun tap => answer (signedValue (fbeOutput s.fbe (dataValue x) tap)) s

/-- The registers of FBE in the order of their selectors (R55, R107). -/
def fbeRegisters (u : Fbe) : List Word32 :=
  [bitValue u.inited, bitValue u.enable, unsignedValue u.fs, unsignedValue u.ms, unsignedValue u.off,
   unsignedValue u.decay, unsignedValue u.gain, unsignedValue u.scale]

/-- FBE.PEEK (R107). -/
def execFbePeek (sel : BitVec 8) (s : State) : Result := readRegister s.fbe.inited (fbeRegisters s.fbe) sel s

end Sys2Proof.Machine
end

