-- ==== Sys2Proof/Machine/Ffe.lean ====
section
/-! DEFINITION. Unit FFE, the feedforward echo line (R110 to R120). -/

namespace Sys2Proof.Machine

/-- `w[n]`, the power `decay^n` in Q15, each power rounded down (R110). -/
def decayPower (r : Nat) : Nat → Nat
  | 0 => 32768
  | n + 1 => decayPower r n * r / 32768

/-- `S`, the sum of `w[n] · w[n]` over `n < count` (R110). -/
def powerSum (r : Nat) : Nat → Nat
  | 0 => 0
  | n + 1 => powerSum r n + decayPower r n * decayPower r n

/-- The recompute step: `SCALE` and the eight tap weights (R110). For `REPEATS ≥ 1` the divisor is at least 32768. -/
def ffeRecompute (u : Ffe) : Ffe :=
  let rs := isqrt (powerSum u.decay u.repeats)
  let scale := u.gain * 32768 / rs
  { u with
    scale := scale
    w := Octet.ofFn fun n => if n < u.repeats then scale * decayPower u.decay n / 32768 else 0 }

/-- The end of a SET of FFE: the recompute step, and the response 0. -/
def ffeSet (u : Ffe) (s : State) : Result := answer 0 { s with ffe := ffeRecompute u }

/-- FFE.INIT (R111). -/
def execFfeInit (fs : Word32) (s : State) : Result :=
  let cfg := s.cfg
  let f := clampData fs cfg.fsMin cfg.fsMax
  let ms := clampNat cfg.ffDefMs 0 cfg.msMax
  let u := { s.ffe with
    fs := f
    ms := ms
    off := tapOfMs cfg f ms
    repeats := cfg.ffDefRepeats
    decay := cfg.ffDefDecay
    gain := cfg.ffDefGain }
  answer 0 { s with ffe := { ffeRecompute u with enable := false, inited := true } }

/-- FFE.SET.DELAY_MS (R76, R112). -/
def execFfeSetDelayMs (v : Word32) (s : State) : Result :=
  let ms := delayMsOperand s.cfg v
  whenInited s.ffe.inited s <| ffeSet { s.ffe with ms := ms, off := tapOfMs s.cfg s.ffe.fs ms } s

/-- FFE.SET.REPEATS (R113). -/
def execFfeSetRepeats (v : Word32) (s : State) : Result :=
  whenInited s.ffe.inited s <| ffeSet { s.ffe with repeats := clampData v 1 8 } s

/-- FFE.SET.DECAY (R114). -/
def execFfeSetDecay (v : Word32) (s : State) : Result :=
  whenInited s.ffe.inited s <| ffeSet { s.ffe with decay := clampData v 0 32768 } s

/-- FFE.SET.GAIN (R115). -/
def execFfeSetGain (v : Word32) (s : State) : Result :=
  whenInited s.ffe.inited s <| ffeSet { s.ffe with gain := clampData v 0 32768 } s

/-- FFE.SET.DELAY_SMP (R77, R116). -/
def execFfeSetDelaySmp (v : Word32) (s : State) : Result :=
  let off := delaySmpOperand s.cfg v
  whenInited s.ffe.inited s <|
  withDivisor s.ffe.fs <| ffeSet { s.ffe with off := off, ms := msOfTap s.cfg s.ffe.fs off } s

/-- The parameters of FFE in the order of their selectors (R54, R117). -/
def ffeParams (u : Ffe) : List Word32 :=
  [unsignedValue u.ms, unsignedValue u.repeats, unsignedValue u.decay, unsignedValue u.gain, unsignedValue u.off]

/-- FFE.GET (R117). -/
def execFfeGet (sel : BitVec 8) (s : State) : Result := readRegister s.ffe.inited (ffeParams s.ffe) sel s

/-- FFE.SWITCH: only `ENABLE` changes (R118). -/
def execFfeSwitch (on : Bool) (s : State) : Result :=
  whenInited s.ffe.inited s <| answer 0 { s with ffe := { s.ffe with enable := on } }

/-- The loop of R119 from tap `n` on, for `count` taps: the index steps back by `OFF` in the ring of `N` cells, and the
weighted cell is added. Gives `k` the sum. -/
def ffeTaps (s : State) : Nat → Nat → Nat → Int → (Int → Result) → Result
  | 0, _, _, acc, k => k acc
  | count + 1, n, idx, acc, k =>
    withTap s idx s.ffe.off fun h =>
      ffeTaps s count (n + 1) (ring idx s.ffe.off s.cfg.n) (acc + s.ffe.w.get n * h) k

/-- FFE.PROC: writes no register and no memory (R119). -/
def execFfeProc (c : BitVec 16) (x : Word32) (s : State) : Result :=
  whenInited (s.ffe.inited && s.shb.inited) s <|
  whenOperand (cursorOk s c && sampleOk x) s <|
  ffeTaps s (s.ffe.repeats - 1) 1 c.toNat (s.ffe.w.get 0 * dataValue x) fun acc =>
    answer (signedValue (clamp16 (tq15 acc))) s

/-- The registers of FFE in the order of their selectors (R55, R120). -/
def ffeRegisters (u : Ffe) : List Word32 :=
  [bitValue u.inited, bitValue u.enable, unsignedValue u.fs, unsignedValue u.ms, unsignedValue u.off,
   unsignedValue u.repeats, unsignedValue u.decay, unsignedValue u.gain, unsignedValue u.scale] ++
  u.w.toList.map unsignedValue

/-- FFE.PEEK (R120). -/
def execFfePeek (sel : BitVec 8) (s : State) : Result := readRegister s.ffe.inited (ffeRegisters s.ffe) sel s

end Sys2Proof.Machine
end

