-- ==== Sys2Proof/Machine/Glb.lean ====
section
/-! DEFINITION. Unit GLB (R138, R139). -/

namespace Sys2Proof.Machine

/-- INITMAP: bit `u` is `INITED` of unit number `u`, for `u` = 1 to 7 (R139). -/
def initMap (s : State) : Word32 :=
  (bitValue s.shb.inited <<< 1) ||| (bitValue s.det.inited <<< 2) ||| (bitValue s.oct.inited <<< 3) |||
  (bitValue s.psh.inited <<< 4) ||| (bitValue s.fbe.inited <<< 5) ||| (bitValue s.ffe.inited <<< 6) |||
  (bitValue s.rev.inited <<< 7)

/-- The registers of GLB in the order of their selectors (R55, R139). -/
def glbRegisters (s : State) : List Word32 :=
  [s.status, unsignedValue s.cfg.n, unsignedValue idValue, initMap s]

/-- GLB.NOP changes no state and returns 0 (R138). -/
def execGlbNop (s : State) : Result := answer 0 s

/-- GLB.PEEK; GLB has no INITED bit and works in every state (R139). -/
def execGlbPeek (sel : BitVec 8) (s : State) : Result := readRegister true (glbRegisters s) sel s

end Sys2Proof.Machine
end

