-- ==== Sys2Proof/Machine/Grain.lean ====
section
/-! DEFINITION. The grain units DET, OCT and PSH: three instances of one machine that differ in their configuration
parameters only (R78 to R97). Each command is one operation over the unit's number `g`; each of the 24 meanings is that
operation at its unit. -/

namespace Sys2Proof.Machine

/-- The recompute step: the eleven derived registers from the three tunables and the configuration (R79, R80). It reads
and writes no dynamic register. -/
def grainRecompute (gc : GrainConfig) (u : Grain) : Grain :=
  let xq := u.shift * 65536 / 1200
  let prq := pow2negQ15 (65536 - xq)
  let dy := ((prq - 16384) * gc.cycle + 8192) / 16384
  let yb := (2 * gc.blend * dy + gc.cycle - 1) / (2 * gc.cycle)
  { u with
    prq := prq
    dy := dy
    k2init := kMin + yb
    k1init := kMin + yb + dy
    d1 := 2 * dy - gc.cycle
    d2 := 2 * (dy - gc.cycle)
    d3 := 2 * dy
    dryw := u.gain * (32768 - u.mix) / 32768
    wetw := u.gain * u.mix / 32768 }

/-- The cycle load: a new grain cycle begins with the geometry of the derived registers (R82, R83). -/
def grainCycleLoad (u : Grain) : Grain :=
  { u with i := 0, k1 := u.k1init, k2 := u.k2init, d := u.d1, ad2 := u.d2, ad3 := u.d3 }

/-- The grain output inside the blend region, from the taps `t1` at K1 and `t2` at K2 (R90, R91). -/
def crossfade (cfg : Config) (gc : GrainConfig) (i : Nat) (t1 t2 : Int) : Int :=
  match gc.xf with
  | .linear => tdiv (i * t1 + (gc.blend - i) * t2) gc.blend
  | .eqPower =>
    let j := i * 256 / gc.blend
    tq15 (cfg.sin j * t1 + cfg.sin (256 - j) * t2)

/-- The output mix, not clamped (R80, R90). -/
def grainMix (u : Grain) (x gr : Int) : Int := tq15 (u.dryw * x + u.wetw * gr)

/-- Step 3 of R90: the taps step where the accumulator is positive (K2 only in the blend region), and the accumulator and
the phase advance. All tests use the values from before the tick. -/
def grainStep (gc : GrainConfig) (u : Grain) : Grain :=
  if 0 < u.d then
    { u with k1 := u.k1 - 1, k2 := if u.i < gc.blend then u.k2 - 1 else u.k2, d := u.d + u.ad2, i := u.i + 1 }
  else { u with d := u.d + u.ad3, i := u.i + 1 }

/-- Steps 3 and 4 of R90: one tick, with the cycle load when the phase reaches `C`. -/
def grainAdvance (gc : GrainConfig) (u : Grain) : Grain :=
  let v := grainStep gc u
  if v.i = gc.cycle then grainCycleLoad v else v

/-- The end of a PROC once the grain output `gr` is known: mix, narrowing with GOVF, advance (R90, R92). -/
def grainFinish (g : GrainId) (x gr : Int) (s : State) : Result :=
  let u := s.grain g
  let y := grainMix u x gr
  let out := wrap16 y
  answer (signedValue out)
    ({ s with status := noteNarrowing y out s.status }.setGrain g (grainAdvance (s.cfg.grain g) u))

/-- INIT (R84). -/
def grainInit (g : GrainId) (fs : Word32) (s : State) : Result :=
  let gc := s.cfg.grain g
  let u := { s.grain g with
    fs := clampData fs s.cfg.fsMin s.cfg.fsMax
    shift := gc.shiftDef
    mix := s.cfg.mixDef
    gain := s.cfg.ggainDef }
  answer 0 (s.setGrain g { grainCycleLoad (grainRecompute gc u) with enable := false, inited := true })

/-- SET.SHIFT (R85). -/
def grainSetShift (g : GrainId) (v : Word32) (s : State) : Result :=
  let gc := s.cfg.grain g
  let u := s.grain g
  whenInited u.inited s <|
  answer 0 (s.setGrain g (grainRecompute gc { u with shift := clampData v gc.shiftMin gc.shiftMax }))

/-- SET.MIX (R86). -/
def grainSetMix (g : GrainId) (v : Word32) (s : State) : Result :=
  let u := s.grain g
  whenInited u.inited s <|
  answer 0 (s.setGrain g (grainRecompute (s.cfg.grain g) { u with mix := clampData v 0 32768 }))

/-- SET.GAIN (R87). -/
def grainSetGain (g : GrainId) (v : Word32) (s : State) : Result :=
  let u := s.grain g
  whenInited u.inited s <|
  answer 0 (s.setGrain g (grainRecompute (s.cfg.grain g) { u with gain := clampData v 0 32768 }))

/-- The tunable parameters in the order of their selectors (R54, R88). -/
def grainParams (u : Grain) : List Word32 := [unsignedValue u.shift, unsignedValue u.mix, unsignedValue u.gain]

/-- GET (R88). -/
def grainGet (g : GrainId) (sel : BitVec 8) (s : State) : Result :=
  readRegister (s.grain g).inited (grainParams (s.grain g)) sel s

/-- SWITCH: only `ENABLE` changes (R89). -/
def grainSwitch (g : GrainId) (on : Bool) (s : State) : Result :=
  let u := s.grain g
  whenInited u.inited s <| answer 0 (s.setGrain g { u with enable := on })

/-- PROC, one tick of the grain scheduler (R90). Outside the blend region K2 is not read. -/
def grainProc (g : GrainId) (c : BitVec 16) (x : Word32) (s : State) : Result :=
  let gc := s.cfg.grain g
  let u := s.grain g
  whenInited (u.inited && s.shb.inited) s <|
  whenOperand (cursorOk s c && sampleOk x) s <|
  withTap s c.toNat u.k1 fun t1 =>
    if u.i < gc.blend then
      withTap s c.toNat u.k2 fun t2 => grainFinish g (dataValue x) (crossfade s.cfg gc u.i t1 t2) s
    else grainFinish g (dataValue x) t1 s

/-- The registers of a grain unit in the order of their selectors (R55, R93). -/
def grainRegisters (u : Grain) : List Word32 :=
  [bitValue u.inited, bitValue u.enable, unsignedValue u.fs, unsignedValue u.shift, unsignedValue u.mix,
   unsignedValue u.gain, unsignedValue u.prq, unsignedValue u.dy, unsignedValue u.k1init, unsignedValue u.k2init,
   signedValue u.d1, signedValue u.d2, signedValue u.d3, unsignedValue u.dryw, unsignedValue u.wetw,
   unsignedValue u.i, unsignedValue u.k1, unsignedValue u.k2, signedValue u.d, signedValue u.ad2, signedValue u.ad3]

/-- PEEK (R93). -/
def grainPeek (g : GrainId) (sel : BitVec 8) (s : State) : Result :=
  readRegister (s.grain g).inited (grainRegisters (s.grain g)) sel s

/-- DET.INIT (R84). -/
def execDetInit (fs : Word32) (s : State) : Result := grainInit .det fs s

/-- DET.SET.SHIFT (R85). -/
def execDetSetShift (v : Word32) (s : State) : Result := grainSetShift .det v s

/-- DET.SET.MIX (R86). -/
def execDetSetMix (v : Word32) (s : State) : Result := grainSetMix .det v s

/-- DET.SET.GAIN (R87). -/
def execDetSetGain (v : Word32) (s : State) : Result := grainSetGain .det v s

/-- DET.GET (R88). -/
def execDetGet (sel : BitVec 8) (s : State) : Result := grainGet .det sel s

/-- DET.SWITCH (R89). -/
def execDetSwitch (on : Bool) (s : State) : Result := grainSwitch .det on s

/-- DET.PROC (R90). -/
def execDetProc (c : BitVec 16) (x : Word32) (s : State) : Result := grainProc .det c x s

/-- DET.PEEK (R93). -/
def execDetPeek (sel : BitVec 8) (s : State) : Result := grainPeek .det sel s

/-- OCT.INIT (R84). -/
def execOctInit (fs : Word32) (s : State) : Result := grainInit .oct fs s

/-- OCT.SET.SHIFT (R85). -/
def execOctSetShift (v : Word32) (s : State) : Result := grainSetShift .oct v s

/-- OCT.SET.MIX (R86). -/
def execOctSetMix (v : Word32) (s : State) : Result := grainSetMix .oct v s

/-- OCT.SET.GAIN (R87). -/
def execOctSetGain (v : Word32) (s : State) : Result := grainSetGain .oct v s

/-- OCT.GET (R88). -/
def execOctGet (sel : BitVec 8) (s : State) : Result := grainGet .oct sel s

/-- OCT.SWITCH (R89). -/
def execOctSwitch (on : Bool) (s : State) : Result := grainSwitch .oct on s

/-- OCT.PROC (R90). -/
def execOctProc (c : BitVec 16) (x : Word32) (s : State) : Result := grainProc .oct c x s

/-- OCT.PEEK (R93). -/
def execOctPeek (sel : BitVec 8) (s : State) : Result := grainPeek .oct sel s

/-- PSH.INIT (R84). -/
def execPshInit (fs : Word32) (s : State) : Result := grainInit .psh fs s

/-- PSH.SET.SHIFT (R85). -/
def execPshSetShift (v : Word32) (s : State) : Result := grainSetShift .psh v s

/-- PSH.SET.MIX (R86). -/
def execPshSetMix (v : Word32) (s : State) : Result := grainSetMix .psh v s

/-- PSH.SET.GAIN (R87). -/
def execPshSetGain (v : Word32) (s : State) : Result := grainSetGain .psh v s

/-- PSH.GET (R88). -/
def execPshGet (sel : BitVec 8) (s : State) : Result := grainGet .psh sel s

/-- PSH.SWITCH (R89). -/
def execPshSwitch (on : Bool) (s : State) : Result := grainSwitch .psh on s

/-- PSH.PROC (R90). -/
def execPshProc (c : BitVec 16) (x : Word32) (s : State) : Result := grainProc .psh c x s

/-- PSH.PEEK (R93). -/
def execPshPeek (sel : BitVec 8) (s : State) : Result := grainPeek .psh sel s

end Sys2Proof.Machine
end

