-- ==== Sys2Proof/Machine/Rev.lean ====
section
/-! DEFINITION. Unit REV, the four-line feedback delay network reverberator (R123 to R134). -/

namespace Sys2Proof.Machine

/-- The per-pass gain of a line of `m` samples for a decay of 60 dB in `t` milliseconds at `fs` Hz (R66, R123). -/
def passGain (m fs t : Nat) : Nat := pow2negQ15 (kx * m / (fs * t))

/-- The damping filter's pole from the two gains of its line (R123). -/
def dampPole (gdc gny : Nat) : Nat := if gdc + gny = 0 then 0 else (gdc - gny) * 32768 / (gdc + gny)

/-- The damping filter's input coefficient from the two gains of its line (R123). -/
def dampInput (gdc gny : Nat) : Nat := if gdc + gny = 0 then 0 else 2 * gdc * gny / (gdc + gny)

/-- The recompute step: the sixteen coefficient registers from `TIME`, `FS` and the configuration (R123). -/
def revRecompute (cfg : Config) (u : Rev) : Rev :=
  let gdc := cfg.m.map fun m => if u.time = 0 then 0 else passGain m u.fs u.time
  let gny := cfg.m.map fun m => if u.time = 0 then 0 else passGain m u.fs (min cfg.t60ny u.time)
  { u with gdc := gdc, gny := gny, gc := gdc.zip dampInput gny, gp := gdc.zip dampPole gny }

/-- The clearing step: the four lines, `Z` and `TCZ` become 0; `RCUR` stays (R124). -/
def revClear (u : Rev) : Rev := { u with rb := Quad.all [], z := Quad.all 0, tcz := 0 }

/-- The divisor of the recompute step is not 0: it divides by `fs · min(T60NY, T)` and `fs · T` when `T` is not 0. -/
def revDivisorOk (cfg : Config) (u : Rev) : Bool := u.time = 0 || u.fs * min cfg.t60ny u.time ≠ 0

/-- The end of INIT and of every SET of REV: recompute, clear, and what `f` does after them (R125, R126, R127). No division
has a zero divisor in a legal configuration (R140): elsewhere the machine stops (log 9). -/
def revSet (u : Rev) (f : Rev → Rev) (s : State) : Result :=
  if revDivisorOk s.cfg u then answer 0 { s with rev := f (revClear (revRecompute s.cfg u)) } else .fault .divisorZero

/-- REV.INIT (R125). -/
def execRevInit (fs : Word32) (s : State) : Result :=
  let cfg := s.cfg
  revSet { s.rev with fs := clampData fs cfg.fsMin cfg.fsMax, time := cfg.rvDefTime, gain := cfg.rvDefGain }
    (fun u => { u with rcur := 0, enable := false, inited := true }) s

/-- REV.SET.TIME (R126). -/
def execRevSetTime (v : Word32) (s : State) : Result :=
  whenInited s.rev.inited s <| revSet { s.rev with time := clampData v 0 s.cfg.rtMax } (fun u => u) s

/-- REV.SET.GAIN (R127). -/
def execRevSetGain (v : Word32) (s : State) : Result :=
  whenInited s.rev.inited s <| revSet { s.rev with gain := clampData v 0 32768 } (fun u => u) s

/-- The parameters of REV in the order of their selectors (R54, R128). -/
def revParams (u : Rev) : List Word32 := [unsignedValue u.time, unsignedValue u.gain]

/-- REV.GET (R128). -/
def execRevGet (sel : BitVec 8) (s : State) : Result := readRegister s.rev.inited (revParams s.rev) sel s

/-- REV.SWITCH: only `ENABLE` changes; nothing is cleared (R129). -/
def execRevSwitch (on : Bool) (s : State) : Result :=
  whenInited s.rev.inited s <| answer 0 { s with rev := { s.rev with enable := on } }

/-- Step 1 of R130: the four lines read at their lengths behind the cursor. -/
def revTaps (cfg : Config) (u : Rev) : Quad Int :=
  cfg.m.zip (fun m line => (Memory.read line (ring u.rcur m cfg.lineLen)).toInt) u.rb

/-- Step 2 of R130: the mixing matrix with entries ±1, scaled by ½ (R132). -/
def revMix (t : Quad Int) : Quad Int :=
  ⟨tdiv (t.q0 + t.q1 + t.q2 + t.q3) 2, tdiv (t.q0 - t.q1 + t.q2 - t.q3) 2,
   tdiv (t.q0 + t.q1 - t.q2 - t.q3) 2, tdiv (t.q0 - t.q1 - t.q2 + t.q3) 2⟩

/-- The damping filters' new states from the mixed taps (R130, R133). -/
def revDamp (u : Rev) (m : Quad Int) : Quad Int :=
  let cm := u.gc.zip (fun (c : Nat) (v : Int) => c * v) m
  let pz := u.gp.zip (fun (p : Nat) (v : Int) => p * v) u.z
  cm.zip (fun a b => tq15 (a + b)) pz

/-- The tone-correction filter's new state from the sum of the taps (R130, R134). -/
def revTone (cfg : Config) (tcz sm : Int) : Int := tcz + tq15 (cfg.tca * (sm * 256 - tcz))

/-- Step 5 of R130: the output, from the sum of the taps and the new state of the tone filter (R134). -/
def revOutput (cfg : Config) (gain : Nat) (sm tcz : Int) : Int :=
  clamp16 (tq15 (gain * (sm - tq15 (cfg.tcb * tdiv tcz 256))))

/-- The cursor and the four lengths lie in their ranges, so that every cell of R130 exists (R39). -/
def revIndexOk (cfg : Config) (u : Rev) : Bool :=
  u.rcur < cfg.lineLen && cfg.m.q0 < cfg.lineLen && cfg.m.q1 < cfg.lineLen && cfg.m.q2 < cfg.lineLen &&
  cfg.m.q3 < cfg.lineLen

/-- The unit after one tick with input sample `x` (steps 1 to 6 of R130). -/
def revTick (cfg : Config) (u : Rev) (x : Int) : Rev :=
  let t := revTaps cfg u
  let f := revDamp u (revMix t)
  { u with
    z := f
    rb := u.rb.zip (fun line v => Memory.write line u.rcur (cellOf (clamp16 (x + v)))) f
    tcz := revTone cfg u.tcz (quadSum t)
    rcur := nextCursor u.rcur cfg.lineLen }

/-- REV.PROC, one tick of the network (R130). An index outside a line, which no run reaches, stops the machine (R39,
log 9). -/
def execRevProc (x : Word32) (s : State) : Result :=
  whenInited s.rev.inited s <|
  whenOperand (sampleOk x) s <|
  if revIndexOk s.cfg s.rev then
    let u := revTick s.cfg s.rev (dataValue x)
    answer (signedValue (revOutput s.cfg s.rev.gain (quadSum (revTaps s.cfg s.rev)) u.tcz)) { s with rev := u }
  else .fault .indexOutOfRange

/-- The registers of REV in the order of their selectors (R55, R131). -/
def revRegisters (u : Rev) : List Word32 :=
  [bitValue u.inited, bitValue u.enable, unsignedValue u.fs, unsignedValue u.time, unsignedValue u.gain] ++
  u.gdc.toList.map unsignedValue ++ u.gny.toList.map unsignedValue ++ u.gc.toList.map unsignedValue ++
  u.gp.toList.map unsignedValue ++ [unsignedValue u.rcur] ++ u.z.toList.map signedValue ++ [signedValue u.tcz]

/-- REV.PEEK (R131). -/
def execRevPeek (sel : BitVec 8) (s : State) : Result := readRegister s.rev.inited (revRegisters s.rev) sel s

end Sys2Proof.Machine
end

