-- ==== Sys2Proof/Machine/Shb.lean ====
section
/-! DEFINITION. Unit SHB, the shared history buffer (R70 to R74). -/

namespace Sys2Proof.Machine

/-- SHB.INIT: every cell of HB and the cursor become 0 (R70). -/
def execShbInit (s : State) : Result := answer 0 { s with shb := { inited := true, cur := 0, hb := [] } }

/-- SHB.PUSH: the sample goes into the cursor's cell, the cursor advances by one modulo `N`, and the response is the cell
written (R71). A cursor outside HB, which no run reaches, stops the machine (R39, log 9). -/
def execShbPush (x : Word32) (s : State) : Result :=
  whenInited s.shb.inited s <|
  whenOperand (sampleOk x) s <|
  if s.shb.cur < s.cfg.n then
    answer (unsignedValue s.shb.cur)
      { s with shb := { s.shb with hb := s.shb.hb.write s.shb.cur (cellOf (dataValue x))
                                   cur := nextCursor s.shb.cur s.cfg.n } }
  else .fault .indexOutOfRange

/-- SHB.READ: the sample at the offset, clamped into `[K_MIN, N - 1]`, behind the cursor operand (R72). -/
def execShbRead (c : BitVec 16) (o : Word32) (s : State) : Result :=
  whenInited s.shb.inited s <|
  whenOperand (cursorOk s c) s <|
  withTap s c.toNat (clampData o kMin (s.cfg.n - 1)) fun t => answer (signedValue t) s

/-- SHB.INDEX: the bare ring index; an offset outside `[0, N)` is E_OPERAND (R73). -/
def execShbIndex (c : BitVec 16) (o : Word32) (s : State) : Result :=
  whenInited s.shb.inited s <|
  whenOperand (cursorOk s c && offsetOk s o) s <|
  answer (unsignedValue (ring c.toNat (dataValue o).toNat s.cfg.n)) s

/-- The registers of SHB in the order of their selectors (R55, R74). -/
def shbRegisters (s : State) : List Word32 :=
  [unsignedValue s.shb.cur, unsignedValue s.cfg.n, unsignedValue kMin]

/-- SHB.PEEK (R74). -/
def execShbPeek (sel : BitVec 8) (s : State) : Result := readRegister s.shb.inited (shbRegisters s) sel s

end Sys2Proof.Machine
end

