-- ==== Sys2Proof/Machine/Dispatch.lean ====
section
/-! DEFINITION. One arm for each command: steps 5 to 7 of R142 for a command the decoder has accepted. -/

namespace Sys2Proof.Machine

def exec (i : Instr) (s : State) : Host.Outcome State Fault Refusal :=
  match i with
  | .glbNop => Sys2Proof.Machine.execGlbNop s
  | .glbPeek sel => Sys2Proof.Machine.execGlbPeek sel s
  | .shbInit => Sys2Proof.Machine.execShbInit s
  | .shbPush x => Sys2Proof.Machine.execShbPush x s
  | .shbRead c o => Sys2Proof.Machine.execShbRead c o s
  | .shbIndex c o => Sys2Proof.Machine.execShbIndex c o s
  | .shbPeek sel => Sys2Proof.Machine.execShbPeek sel s
  | .detInit fs => Sys2Proof.Machine.execDetInit fs s
  | .detSetShift v => Sys2Proof.Machine.execDetSetShift v s
  | .detSetMix v => Sys2Proof.Machine.execDetSetMix v s
  | .detSetGain v => Sys2Proof.Machine.execDetSetGain v s
  | .detGet sel => Sys2Proof.Machine.execDetGet sel s
  | .detSwitch on => Sys2Proof.Machine.execDetSwitch on s
  | .detProc c x => Sys2Proof.Machine.execDetProc c x s
  | .detPeek sel => Sys2Proof.Machine.execDetPeek sel s
  | .octInit fs => Sys2Proof.Machine.execOctInit fs s
  | .octSetShift v => Sys2Proof.Machine.execOctSetShift v s
  | .octSetMix v => Sys2Proof.Machine.execOctSetMix v s
  | .octSetGain v => Sys2Proof.Machine.execOctSetGain v s
  | .octGet sel => Sys2Proof.Machine.execOctGet sel s
  | .octSwitch on => Sys2Proof.Machine.execOctSwitch on s
  | .octProc c x => Sys2Proof.Machine.execOctProc c x s
  | .octPeek sel => Sys2Proof.Machine.execOctPeek sel s
  | .pshInit fs => Sys2Proof.Machine.execPshInit fs s
  | .pshSetShift v => Sys2Proof.Machine.execPshSetShift v s
  | .pshSetMix v => Sys2Proof.Machine.execPshSetMix v s
  | .pshSetGain v => Sys2Proof.Machine.execPshSetGain v s
  | .pshGet sel => Sys2Proof.Machine.execPshGet sel s
  | .pshSwitch on => Sys2Proof.Machine.execPshSwitch on s
  | .pshProc c x => Sys2Proof.Machine.execPshProc c x s
  | .pshPeek sel => Sys2Proof.Machine.execPshPeek sel s
  | .fbeInit fs => Sys2Proof.Machine.execFbeInit fs s
  | .fbeSetDelayMs v => Sys2Proof.Machine.execFbeSetDelayMs v s
  | .fbeSetDecay v => Sys2Proof.Machine.execFbeSetDecay v s
  | .fbeSetGain v => Sys2Proof.Machine.execFbeSetGain v s
  | .fbeSetDelaySmp v => Sys2Proof.Machine.execFbeSetDelaySmp v s
  | .fbeGet sel => Sys2Proof.Machine.execFbeGet sel s
  | .fbeSwitch on => Sys2Proof.Machine.execFbeSwitch on s
  | .fbeProc c x => Sys2Proof.Machine.execFbeProc c x s
  | .fbePeek sel => Sys2Proof.Machine.execFbePeek sel s
  | .ffeInit fs => Sys2Proof.Machine.execFfeInit fs s
  | .ffeSetDelayMs v => Sys2Proof.Machine.execFfeSetDelayMs v s
  | .ffeSetRepeats v => Sys2Proof.Machine.execFfeSetRepeats v s
  | .ffeSetDecay v => Sys2Proof.Machine.execFfeSetDecay v s
  | .ffeSetGain v => Sys2Proof.Machine.execFfeSetGain v s
  | .ffeSetDelaySmp v => Sys2Proof.Machine.execFfeSetDelaySmp v s
  | .ffeGet sel => Sys2Proof.Machine.execFfeGet sel s
  | .ffeSwitch on => Sys2Proof.Machine.execFfeSwitch on s
  | .ffeProc c x => Sys2Proof.Machine.execFfeProc c x s
  | .ffePeek sel => Sys2Proof.Machine.execFfePeek sel s
  | .revInit fs => Sys2Proof.Machine.execRevInit fs s
  | .revSetTime v => Sys2Proof.Machine.execRevSetTime v s
  | .revSetGain v => Sys2Proof.Machine.execRevSetGain v s
  | .revGet sel => Sys2Proof.Machine.execRevGet sel s
  | .revSwitch on => Sys2Proof.Machine.execRevSwitch on s
  | .revProc x => Sys2Proof.Machine.execRevProc x s
  | .revPeek sel => Sys2Proof.Machine.execRevPeek sel s

end Sys2Proof.Machine
end

