-- ==== Sys2Proof/Machine/Step.lean ====
section
/-! DEFINITION. One step of the block: it accepts the oldest input presented and carries it out (R20, R43). -/

namespace Sys2Proof.Machine

/-- One step. With nothing presented the block holds its state (R149, log 4). Hardware reset gives the state of R150. A
command word is decoded and checked (steps 1 to 4 of R142): a word that matches no row is answered with its fault code
(R61), a command runs. A configuration that breaks a constraint of R8 is refused (log 5). -/
def step (s : State) : Host.Outcome State Fault Refusal :=
  match s.pending with
  | [] => .next s
  | .hardReset :: rest => .next (State.hardReset { s with pending := rest })
  | .command w :: rest =>
    if s.cfg.Legal then
      match decode w with
      | .error c => takeFault c { s with pending := rest }
      | .ok i => exec i { s with pending := rest }
    else .refused .illegalConfig

/-- The state in which the next step accepts the row's bits, `nbits` of them, as a command word; the bits above are 0. -/
def State.withFetchWord (s : State) (nbits w : Nat) : State :=
  s.presentCommand (BitVec.ofNat 64 (w % 2 ^ nbits))

end Sys2Proof.Machine
end

