-- ==== Sys2Proof/Machine/Pseudo.lean ====
section
/-! DEFINITION. The pseudo-instructions (R63): fixed sequences of commands. The names `Instr.grain…` spell the command of
grain unit `g`. -/

namespace Sys2Proof

/-- g.INIT (R84). -/
def Instr.grainInit (fs : Word32) : GrainId → Instr
  | .det => .detInit fs
  | .oct => .octInit fs
  | .psh => .pshInit fs

/-- g.SET.SHIFT (R85). -/
def Instr.grainSetShift (v : Word32) : GrainId → Instr
  | .det => .detSetShift v
  | .oct => .octSetShift v
  | .psh => .pshSetShift v

/-- g.SET.MIX (R86). -/
def Instr.grainSetMix (v : Word32) : GrainId → Instr
  | .det => .detSetMix v
  | .oct => .octSetMix v
  | .psh => .pshSetMix v

/-- g.SET.GAIN (R87). -/
def Instr.grainSetGain (v : Word32) : GrainId → Instr
  | .det => .detSetGain v
  | .oct => .octSetGain v
  | .psh => .pshSetGain v

/-- g.GET (R88). -/
def Instr.grainGet (sel : BitVec 8) : GrainId → Instr
  | .det => .detGet sel
  | .oct => .octGet sel
  | .psh => .pshGet sel

/-- g.SWITCH (R89). -/
def Instr.grainSwitch (on : Bool) : GrainId → Instr
  | .det => .detSwitch on
  | .oct => .octSwitch on
  | .psh => .pshSwitch on

/-- g.PROC (R90). -/
def Instr.grainProc (c : BitVec 16) (x : Word32) : GrainId → Instr
  | .det => .detProc c x
  | .oct => .octProc c x
  | .psh => .pshProc c x

/-- g.PEEK (R93). -/
def Instr.grainPeek (sel : BitVec 8) : GrainId → Instr
  | .det => .detPeek sel
  | .oct => .octPeek sel
  | .psh => .pshPeek sel

namespace Machine

/-- The pseudo-instructions of R63, for the units that have them. -/
inductive Pseudo where
  | grainOn (g : GrainId) | fbeOn | ffeOn | revOn
  | grainOff (g : GrainId) | fbeOff | ffeOff | revOff
  | grainSetParams (g : GrainId) (s m a : Word32)
  | fbeSetParams (d r a : Word32)
  | ffeSetParams (d n r a : Word32)
  | revSetParams (t a : Word32)
  | grainGetParams (g : GrainId) | fbeGetParams | ffeGetParams | revGetParams
  deriving DecidableEq, Repr

/-- The expansion of a pseudo-instruction. A parameter vector leaves out DELAY_SMP (R54, R63). -/
def expand : Pseudo → List Instr
  | .grainOn g => [.grainSwitch true g]
  | .fbeOn => [.fbeSwitch true]
  | .ffeOn => [.ffeSwitch true]
  | .revOn => [.revSwitch true]
  | .grainOff g => [.grainSwitch false g]
  | .fbeOff => [.fbeSwitch false]
  | .ffeOff => [.ffeSwitch false]
  | .revOff => [.revSwitch false]
  | .grainSetParams g s m a => [.grainSetShift s g, .grainSetMix m g, .grainSetGain a g]
  | .fbeSetParams d r a => [.fbeSetDelayMs d, .fbeSetDecay r, .fbeSetGain a]
  | .ffeSetParams d n r a => [.ffeSetDelayMs d, .ffeSetRepeats n, .ffeSetDecay r, .ffeSetGain a]
  | .revSetParams t a => [.revSetTime t, .revSetGain a]
  | .grainGetParams g => [.grainGet 0 g, .grainGet 1 g, .grainGet 2 g]
  | .fbeGetParams => [.fbeGet 0, .fbeGet 1, .fbeGet 2]
  | .ffeGetParams => [.ffeGet 0, .ffeGet 1, .ffeGet 2, .ffeGet 3]
  | .revGetParams => [.revGet 0, .revGet 1]

/-- Commands executed one after another, each to completion before the next begins (R43). -/
def execAll : List Instr → State → Result
  | [], s => .next s
  | i :: rest, s =>
    match exec i s with
    | .next t => execAll rest t
    | .fault f => .fault f
    | .refused r => .refused r

/-- A pseudo-instruction executed: its expansion, which is not atomic (R63). -/
def execPseudo (p : Pseudo) (s : State) : Result := execAll (expand p) s

end Machine

end Sys2Proof
end

