-- ==== Sys2Proof/Safety.lean ====
section
/-! DEFINITION. What a good state of the block is, in the terms of the spec's own ranges and invariants (10_state.md, R25,
R81, R94, R123, R133, R134), and when two states cannot be told apart by any command (R150). -/

namespace Sys2Proof.Machine

/-- `y_m`, the number of steps the rate accumulator has made in the first `m` ticks of a cycle of `cycle` ticks with `dy`
steps (R81, item 2). -/
def stepsDone (dy cycle m : Nat) : Nat := (2 * m * dy + cycle - 1) / (2 * cycle)

/-- The dynamic registers of a grain unit are those of tick `I` of a cycle that was loaded with `dy` steps (R81, R83,
R94). -/
def Grain.AtTick (u : Grain) (gc : GrainConfig) (dy : Nat) : Prop :=
  dy ≤ gc.cycle ∧ u.i < gc.cycle ∧
  u.ad2 = 2 * ((dy : Int) - gc.cycle) ∧ u.ad3 = 2 * (dy : Int) ∧
  u.d = 2 * (dy : Int) - gc.cycle + 2 * dy * u.i - 2 * gc.cycle * stepsDone dy gc.cycle u.i ∧
  u.k1 + stepsDone dy gc.cycle u.i = kMin + stepsDone dy gc.cycle gc.blend + dy ∧
  u.k2 + stepsDone dy gc.cycle (min u.i gc.blend) = kMin + stepsDone dy gc.cycle gc.blend

/-- The registers of an initialised grain unit: tunables in range, derived registers those of the tunables, dynamic
registers those of a tick of some cycle (R25, R29, R94). -/
structure Grain.Good (u : Grain) (cfg : Config) (gc : GrainConfig) : Prop where
  fs : cfg.fsMin ≤ u.fs ∧ u.fs ≤ cfg.fsMax
  shift : gc.shiftMin ≤ u.shift ∧ u.shift ≤ gc.shiftMax
  mix : u.mix ≤ 32768
  gain : u.gain ≤ 32768
  derived : grainRecompute gc u = u
  tick : ∃ dy, u.AtTick gc dy

/-- The registers of an initialised FBE (R25, R30, R75). -/
structure Fbe.Good (u : Fbe) (cfg : Config) : Prop where
  fs : cfg.fsMin ≤ u.fs ∧ u.fs ≤ cfg.fsMax
  ms : u.ms ≤ cfg.msMax
  off : kMin ≤ u.off ∧ u.off ≤ cfg.n - 1
  decay : u.decay ≤ cfg.decayFbMax
  gain : u.gain ≤ 32768
  derived : fbeRecompute cfg u = u

/-- The registers of an initialised FFE (R25, R31, R75). -/
structure Ffe.Good (u : Ffe) (cfg : Config) : Prop where
  fs : cfg.fsMin ≤ u.fs ∧ u.fs ≤ cfg.fsMax
  ms : u.ms ≤ cfg.msMax
  off : kMin ≤ u.off ∧ u.off ≤ cfg.n - 1
  repeats : 1 ≤ u.repeats ∧ u.repeats ≤ 8
  decay : u.decay ≤ 32768
  gain : u.gain ≤ 32768
  derived : ffeRecompute u = u

/-- The registers of an initialised REV (R25, R32, R133, R134). -/
structure Rev.Good (u : Rev) (cfg : Config) : Prop where
  fs : cfg.fsMin ≤ u.fs ∧ u.fs ≤ cfg.fsMax
  time : u.time ≤ cfg.rtMax
  gain : u.gain ≤ 32768
  derived : revRecompute cfg u = u
  z : u.z.Forall fun v => -65536 ≤ v ∧ v ≤ 65536
  tcz : -33554432 ≤ u.tcz ∧ u.tcz ≤ 33554432

/-- The invariant of the block: a legal configuration, STATUS with its reserved bits 0 (R23), memories in their canonical
form and inside their sizes (R35), cursors inside the rings (R28, R32), and every initialised unit good. -/
structure State.Inv (s : State) : Prop where
  legal : s.cfg.Legal
  status : s.status &&& ~~~statusMask = 0
  cursor : s.shb.cur < s.cfg.n
  hb : s.shb.hb.wf = true ∧ Memory.Below s.shb.hb s.cfg.n
  rcursor : s.rev.rcur < s.cfg.lineLen
  rb : s.rev.rb.Forall fun m => Memory.wf m = true ∧ Memory.Below m s.cfg.lineLen
  grain : ∀ g, (s.grain g).inited = true → (s.grain g).Good s.cfg (s.cfg.grain g)
  fbe : s.fbe.inited = true → s.fbe.Good s.cfg
  ffe : s.ffe.inited = true → s.ffe.Good s.cfg
  rev : s.rev.inited = true → s.rev.Good s.cfg

/-- Two states that differ only in what units not yet initialised hold (R150). -/
structure SameButUninitialised (s t : State) : Prop where
  cfg : s.cfg = t.cfg
  pending : s.pending = t.pending
  responses : s.responses = t.responses
  status : s.status = t.status
  shbInited : s.shb.inited = t.shb.inited
  shb : s.shb.inited = true → s.shb = t.shb
  grainInited : ∀ g, (s.grain g).inited = (t.grain g).inited
  grain : ∀ g, (s.grain g).inited = true → s.grain g = t.grain g
  fbeInited : s.fbe.inited = t.fbe.inited
  fbe : s.fbe.inited = true → s.fbe = t.fbe
  ffeInited : s.ffe.inited = t.ffe.inited
  ffe : s.ffe.inited = true → s.ffe = t.ffe
  revInited : s.rev.inited = t.rev.inited
  rev : s.rev.inited = true → s.rev = t.rev

end Sys2Proof.Machine
end

