-- ==== Sys2Proof/Certificates/Slice0/Obligations.lean ====
section
/-! DEFINITION. The statements for the provers. `Sys2Proof.Claims` holds the words they are said in, written from the
spec and not from the model's own operations: words and fields as numbers (R49, R50), `Int.tdiv` for the truncating
division, `%` for ring positions, `Nat.sqrt` for the root, and each floor division by the two inequalities that fix it.

A conclusion `exec i s = .next (replied v s')` gives the whole next state: every register, every STATUS bit and every
cell of memory that `s'` does not replace is as in `s`. Where a command writes a memory, the statement reads each of its
cells. `Instr.grainX` names the three constructors `detX`, `octX`, `pshX`. -/

namespace Sys2Proof.Claims

open Sys2Proof Sys2Proof.Machine

/-- The response word with `FAULT` in bits 63:56, 0 in bits 55:32 and `VALUE` in bits 31:0 (R50). -/
def word (fault : Nat) (v : Word32) : ResponseWord := BitVec.ofNat 64 (fault * 2 ^ 56 + v.toNat)

/-- The state in which a command ended without fault and answered `v` (R15, R50). -/
def replied (v : Word32) (s : State) : State := { s with responses := word 0 v :: s.responses }

/-- The state in which a command ended with fault code `k`: the STATUS bit of that number is set and the response is
`FAULT = k`, `VALUE = 0` (R141). -/
def faulted (k : Nat) (s : State) : State :=
  { s with status := s.status ||| BitVec.ofNat 32 (2 ^ k), responses := word k 0 :: s.responses }

/-- A parameter operand clamped into `[lo, hi]` (R18). -/
def clamped (v : Word32) (lo hi : Nat) : Nat := (max (lo : Int) (min (hi : Int) v.toInt)).toNat

/-- A legal sample operand (R58). -/
abbrev IsSample (x : Word32) : Prop := -32768 ≤ x.toInt ∧ x.toInt ≤ 32767

/-- Hard clamping to the range of a sample (R11). -/
def clip (v : Int) : Int := max (-32768) (min 32767 v)

/-- The sample at position `k` of a ring of `n` cells, the position taken modulo `n` (R68). -/
def cellAt (m : Memory) (k : Int) (n : Nat) : Int := (Memory.read m (k % n).toNat).toInt

/-- The sample of HB at offset `o` behind cursor `c` (R69). -/
def tap (s : State) (c : BitVec 16) (o : Nat) : Int := cellAt s.shb.hb ((c.toNat : Int) - o) s.cfg.n

/-- `UNIT`, `OP`, `SEL` and `AUX` of a command word as numbers, and `DATA` as a signed number (R49, R57). -/
def unitOf (w : CommandWord) : Nat := w.toNat / 2 ^ 60
def opOf (w : CommandWord) : Nat := w.toNat / 2 ^ 56 % 16
def selOf (w : CommandWord) : Nat := w.toNat / 2 ^ 48 % 256
def auxOf (w : CommandWord) : Nat := w.toNat / 2 ^ 32 % 65536
def dataOf (w : CommandWord) : Int := (BitVec.ofNat 32 w.toNat).toInt

/-- The "yes" entries of the table of operations (R53). -/
def accepts (unit op : Nat) : Bool :=
  match unit with
  | 0 => [0, 9].contains op
  | 1 => [1, 6, 7, 8, 9].contains op
  | _ => [1, 2, 3, 4, 5, 9].contains op

/-- How many parameters and how many PEEK registers a unit has (R140). -/
def paramCount (unit : Nat) : Nat := [0, 0, 3, 3, 3, 4, 5, 2].getD unit 0
def peekCount (unit : Nat) : Nat := [4, 3, 21, 21, 21, 8, 17, 27].getD unit 0

/-- The command's format has a cursor (P and X); it has no DATA (Z and G); it has a sample (P and Q) (R51). -/
def hasCursor (unit op : Nat) : Bool := (op == 5 && unit != 7) || op == 7 || op == 8
def hasNoData (unit op : Nat) : Bool := op == 0 || op == 3 || op == 9 || (op == 1 && unit == 1)
def hasSample (op : Nat) : Bool := op == 5 || op == 6

/-- `INITED` of unit number `u` (R52). -/
def inited (s : State) (u : Nat) : Bool :=
  match u with
  | 1 => s.shb.inited
  | 2 => s.det.inited
  | 3 => s.oct.inited
  | 4 => s.psh.inited
  | 5 => s.fbe.inited
  | 6 => s.ffe.inited
  | 7 => s.rev.inited
  | _ => false

/-- Steps 1 to 4 of the check: the fault code that a command word gives by itself, 0 for none (R142). -/
def wordFault (w : CommandWord) : Nat :=
  let u := unitOf w
  let op := opOf w
  let sel := selOf w
  if 8 ≤ u then 1
  else if accepts u op = false then 2
  else if (op = 2 ∨ op = 3) ∧ paramCount u ≤ sel then 3
  else if op = 9 ∧ peekCount u ≤ sel then 3
  else if op ≠ 2 ∧ op ≠ 3 ∧ op ≠ 9 ∧ sel ≠ 0 then 4
  else if hasCursor u op = false ∧ auxOf w ≠ 0 then 4
  else if hasNoData u op = true ∧ dataOf w ≠ 0 then 4
  else if op = 4 ∧ dataOf w ≠ 0 ∧ dataOf w ≠ 1 then 4
  else 0

/-- Steps 5 and 6 of the check: the fault code that a legal command word gives in state `s`, 0 for none (R142). -/
def stateFault (s : State) (w : CommandWord) : Nat :=
  let u := unitOf w
  let op := opOf w
  if u ≠ 0 ∧ op ≠ 1 ∧ inited s u = false then 5
  else if op = 5 ∧ u ≠ 7 ∧ s.shb.inited = false then 5
  else if hasCursor u op = true ∧ s.cfg.n ≤ auxOf w then 6
  else if hasSample op = true ∧ ¬(-32768 ≤ dataOf w ∧ dataOf w ≤ 32767) then 6
  else if op = 8 ∧ ¬(0 ≤ dataOf w ∧ dataOf w < s.cfg.n) then 6
  else 0

/-- The whole check: the lowest fault code that applies, 0 if the command executes (R142). -/
def checkFault (s : State) (w : CommandWord) : Nat := if wordFault w ≠ 0 then wordFault w else stateFault s w

/-- The registers and memories of one unit are the same in two states. -/
def SameUnit : UnitId → State → State → Prop
  | .glb, _, _ => True
  | .shb, s, t => s.shb = t.shb
  | .det, s, t => s.det = t.det
  | .oct, s, t => s.oct = t.oct
  | .psh, s, t => s.psh = t.psh
  | .fbe, s, t => s.fbe = t.fbe
  | .ffe, s, t => s.ffe = t.ffe
  | .rev, s, t => s.rev = t.rev

/-- Element `k` of four like registers. -/
def at4 {α : Type} (q : Quad α) (k : Fin 4) : α :=
  match k with
  | 0 => q.q0
  | 1 => q.q1
  | 2 => q.q2
  | 3 => q.q3

/-- `q` is `a / b` rounded down, for `b > 0`. -/
def IsFloor (q : Nat) (a b : Int) : Prop := q * b ≤ a ∧ a < (q + 1) * b

/-- The derived registers of a grain unit are those that R79 gives its tunables. -/
def GrainDerived (gc : GrainConfig) (u : Grain) : Prop :=
  ∃ xq yb : Nat,
    IsFloor xq (u.shift * 65536) 1200 ∧ IsFloor yb (2 * gc.blend * u.dy + gc.cycle - 1) (2 * gc.cycle) ∧
    u.prq = pow2negQ15 (65536 - xq) ∧ IsFloor u.dy ((u.prq - 16384) * gc.cycle + 8192) 16384 ∧
    u.k2init = 10 + yb ∧ u.k1init = 10 + yb + u.dy ∧
    u.d1 = 2 * u.dy - gc.cycle ∧ u.d2 = 2 * (u.dy - gc.cycle) ∧ u.d3 = 2 * u.dy ∧
    IsFloor u.dryw (u.gain * (32768 - u.mix)) 32768 ∧ IsFloor u.wetw (u.gain * u.mix) 32768

/-- The dynamic registers of a grain unit are those of the first tick of a cycle with its own geometry (R82). -/
def AtCycleStart (u : Grain) : Prop :=
  u.i = 0 ∧ u.k1 = u.k1init ∧ u.k2 = u.k2init ∧ u.d = u.d1 ∧ u.ad2 = u.d2 ∧ u.ad3 = u.d3

/-- `u` with the derived registers of `v`. -/
def withDerived (u v : Grain) : Grain :=
  { u with prq := v.prq, dy := v.dy, k1init := v.k1init, k2init := v.k2init, d1 := v.d1, d2 := v.d2, d3 := v.d3,
           dryw := v.dryw, wetw := v.wetw }

/-- The registers of a grain unit by PEEK selector (R55). -/
def grainRegister (u : Grain) : Nat → Int
  | 0 => if u.inited then 1 else 0
  | 1 => if u.enable then 1 else 0
  | 2 => u.fs
  | 3 => u.shift
  | 4 => u.mix
  | 5 => u.gain
  | 6 => u.prq
  | 7 => u.dy
  | 8 => u.k1init
  | 9 => u.k2init
  | 10 => u.d1
  | 11 => u.d2
  | 12 => u.d3
  | 13 => u.dryw
  | 14 => u.wetw
  | 15 => u.i
  | 16 => u.k1
  | 17 => u.k2
  | 18 => u.d
  | 19 => u.ad2
  | 20 => u.ad3
  | _ => 0

/-- The tap in samples of a delay of `ms` milliseconds (R76). -/
def tapFor (cfg : Config) (fs ms : Nat) : Nat := max 10 (min (cfg.n - 1) ((fs * ms + 500) / 1000))

/-- `SCALE` of FBE is the one that R98 gives its tunables. -/
def FbeDerived (cfg : Config) (u : Fbe) : Prop :=
  ∃ s0 : Nat, IsFloor s0 (Nat.sqrt (u.gain * u.gain * (2 ^ 30 - u.decay * u.decay))) 32768 ∧
    IsFloor u.scale (cfg.kfb * s0) 32768

/-- The registers of FBE by PEEK selector (R55). -/
def fbeRegister (u : Fbe) : Nat → Nat
  | 0 => if u.inited then 1 else 0
  | 1 => if u.enable then 1 else 0
  | 2 => u.fs
  | 3 => u.ms
  | 4 => u.off
  | 5 => u.decay
  | 6 => u.gain
  | 7 => u.scale
  | _ => 0

/-- The powers of a decay rate in Q15, each rounded down (R110). -/
def q15Power (r : Nat) : Nat → Nat
  | 0 => 32768
  | k + 1 => q15Power r k * r / 32768

/-- `SCALE` and `W` of FFE are those that R110 gives its tunables. -/
def FfeDerived (u : Ffe) : Prop :=
  IsFloor u.scale (u.gain * 32768)
    (Nat.sqrt (((List.range u.repeats).map fun k => q15Power u.decay k * q15Power u.decay k).sum)) ∧
  ∀ k < 8, (k < u.repeats → IsFloor (u.w.get k) (u.scale * q15Power u.decay k) 32768) ∧
    (u.repeats ≤ k → u.w.get k = 0)

/-- The registers of FFE by PEEK selector (R55). -/
def ffeRegister (u : Ffe) (sel : Nat) : Nat :=
  match sel with
  | 0 => if u.inited then 1 else 0
  | 1 => if u.enable then 1 else 0
  | 2 => u.fs
  | 3 => u.ms
  | 4 => u.off
  | 5 => u.repeats
  | 6 => u.decay
  | 7 => u.gain
  | 8 => u.scale
  | k => u.w.get (k - 9)

/-- The coefficient registers of REV are those that R123 gives its tunables. -/
def RevDerived (cfg : Config) (u : Rev) : Prop :=
  ∀ k : Fin 4,
    let gdc := at4 u.gdc k
    let gny := at4 u.gny k
    (u.time = 0 → gdc = 0 ∧ gny = 0) ∧
    (u.time ≠ 0 → gdc = pow2negQ15 (653117639 * at4 cfg.m k / (u.fs * u.time)) ∧
      gny = pow2negQ15 (653117639 * at4 cfg.m k / (u.fs * min cfg.t60ny u.time))) ∧
    (gdc + gny = 0 → at4 u.gp k = 0 ∧ at4 u.gc k = 0) ∧
    (gdc + gny ≠ 0 → IsFloor (at4 u.gp k) ((gdc - gny) * 32768) (gdc + gny) ∧
      IsFloor (at4 u.gc k) (2 * gdc * gny) (gdc + gny))

/-- The lines, `Z` and `TCZ` of REV are cleared (R124). -/
def RevCleared (u : Rev) : Prop :=
  (∀ k a, Memory.read (at4 u.rb k) a = 0) ∧ (∀ k, Memory.wf (at4 u.rb k) = true) ∧ (∀ k, at4 u.z k = 0) ∧ u.tcz = 0

/-- `u` with the coefficient registers, the lines and the filter states of `v`. -/
def withRecomputed (u v : Rev) : Rev :=
  { u with gdc := v.gdc, gny := v.gny, gc := v.gc, gp := v.gp, rb := v.rb, z := v.z, tcz := v.tcz }

/-- The registers of REV by PEEK selector (R55). -/
def revRegister (u : Rev) : Nat → Int
  | 0 => if u.inited then 1 else 0
  | 1 => if u.enable then 1 else 0
  | 2 => u.fs
  | 3 => u.time
  | 4 => u.gain
  | 5 => u.gdc.q0
  | 6 => u.gdc.q1
  | 7 => u.gdc.q2
  | 8 => u.gdc.q3
  | 9 => u.gny.q0
  | 10 => u.gny.q1
  | 11 => u.gny.q2
  | 12 => u.gny.q3
  | 13 => u.gc.q0
  | 14 => u.gc.q1
  | 15 => u.gc.q2
  | 16 => u.gc.q3
  | 17 => u.gp.q0
  | 18 => u.gp.q1
  | 19 => u.gp.q2
  | 20 => u.gp.q3
  | 21 => u.rcur
  | 22 => u.z.q0
  | 23 => u.z.q1
  | 24 => u.z.q2
  | 25 => u.z.q3
  | 26 => u.tcz
  | _ => 0

/-- Unit number and parameter of a SET; DELAY_MS and DELAY_SMP set the same parameter, the tap (R54). -/
def setParameter (i : Instr) : Option (Nat × Nat) :=
  let w := encode i
  if opOf w = 2 then
    some (unitOf w, if (unitOf w = 5 ∧ selOf w = 3) ∨ (unitOf w = 6 ∧ selOf w = 4) then 0 else selOf w)
  else none

/-- A parameter operand replaced by the nearest legal value. -/
def clampedWord (v : Word32) (lo hi : Nat) : Word32 := BitVec.ofInt 32 (max (lo : Int) (min (hi : Int) v.toInt))

/-- The state with every `ENABLE` bit at `b`. -/
def withEnable (b : Bool) (s : State) : State :=
  { s with det := { s.det with enable := b }, oct := { s.oct with enable := b }, psh := { s.psh with enable := b },
           fbe := { s.fbe with enable := b }, ffe := { s.ffe with enable := b }, rev := { s.rev with enable := b } }

/-- One tick of the recirculating echo: `c` is the current cursor, `FBE.PROC c, x -> y`, then `SHB.PUSH y` (R108). -/
def echoTick (x : Word32) (s : State) : Result :=
  match exec (.fbeProc (BitVec.ofNat 16 s.shb.cur) x) s with
  | .next t =>
    match t.responses with
    | r :: _ => exec (.shbPush (r.setWidth 32)) t
    | [] => .next t
  | .fault f => .fault f
  | .refused r => .refused r

/-- One tick of the recirculating echo for each input sample, the first sample first (R108). -/
def echoRun : List Word32 → State → Result
  | [], s => .next s
  | x :: xs, s =>
    match echoTick x s with
    | .next t => echoRun xs t
    | .fault f => .fault f
    | .refused r => .refused r

/-- The height of echo number `k` of an impulse of height `a` (R109). -/
def echoHeight (scale decay : Nat) (a : Int) : Nat → Int
  | 0 => (scale * a).tdiv 32768
  | k + 1 => (decay * echoHeight scale decay a k).tdiv 32768

end Sys2Proof.Claims

open Sys2Proof Sys2Proof.Machine Sys2Proof.Claims

/-! Encoding. -/

/-- Decode and encode agree: reading the word of a well-formed command gives that command, for all 57 constructors and
every value of every operand (R49, R51, R56). -/
def Obligations.EncodedCommandsDecodeBack : Prop :=
  ∀ i : Instr, i.wellFormed = true → decode (encode i) = .ok i

/-- Each command has one word: a word that decodes gives a well-formed command whose word it is, so no bit of a legal
word is dropped (R51, R56). -/
def Obligations.DecodedWordsEncodeBack : Prop :=
  ∀ (w : CommandWord) (i : Instr), decode w = .ok i → i.wellFormed = true ∧ encode i = w

/-- The decoder rejects exactly the words that steps 1 to 4 of the check reject, with the same code (R61, R142). -/
def Obligations.DecoderRejectsByCheckOrder : Prop :=
  ∀ w : CommandWord, (match decode w with | .error c => codeNumber c | .ok _ => 0) = wordFault w

/-- Words of each unit that the spec writes out (95_test_vectors.md, 2.1) decode to the commands it names. -/
def Obligations.SpecWordsDecodeAsListed : Prop :=
  decode 0x0903000000000000 = .ok (.glbPeek 3) ∧ decode 0x1700003F0000000A = .ok (.shbRead 63 10) ∧
  decode 0x210000000000BB80 = .ok (.detInit 48000) ∧ decode 0x32000000000004B0 = .ok (.octSetShift 1200) ∧
  decode 0x45000010000006A4 = .ok (.pshProc 16 1700) ∧ decode 0x55000005FFFFFFFE = .ok (.fbeProc 5 0xFFFFFFFE) ∧
  decode 0x620400000000000C = .ok (.ffeSetDelaySmp 12) ∧ decode 0x75000000FFFFEF6E = .ok (.revProc 0xFFFFEF6E)

/-- On a byte-wide transport byte `k` of the path is bits `8k + 7 : 8k` of the word, and eight bytes carry one word
(R37). -/
def Obligations.TransportIsLittleEndian : Prop :=
  ∀ w : BitVec 64, (bytesOfWord w).length = 8 ∧ wordOfBytes (bytesOfWord w) = some w ∧
    ∀ k < 8, ((bytesOfWord w).getD k 0).toNat = w.toNat / 256 ^ k % 256

/-! The step. -/

/-- A step runs the decoded command: when the oldest input is a word that decodes to `i`, the step is `exec i` at the
state from which that input is taken, and nothing else (R20, R43). -/
def Obligations.StepRunsTheDecodedCommand : Prop :=
  ∀ (s : State) (w : CommandWord) (rest : List Input) (i : Instr),
    s.pending = .command w :: rest → s.cfg.Legal → decode w = .ok i → step s = exec i { s with pending := rest }

/-- The model's choice (logs 4 and 5): with nothing presented a step holds the state, and a command presented to a block
of an illegal configuration is refused. -/
def Obligations.StepIdlesOrRefusesIllegalConfiguration : Prop :=
  (∀ s : State, s.pending = [] → step s = .next s) ∧
  ∀ (s : State) (w : CommandWord) (rest : List Input),
    s.pending = .command w :: rest → ¬s.cfg.Legal → step s = .refused .illegalConfig

/-- After hardware reset STATUS is 0, every INITED bit is 0, and the configuration is as before; a reset asserted on a
running block does this in one step. That the inputs still to come and the responses already given stay is the model's
choice (logs 1 and 2). -/
def Obligations.HardwareResetUninitialisesEveryUnit : Prop :=
  (∀ cfg : Config, (State.resetWith cfg).status = 0 ∧ (State.resetWith cfg).cfg = cfg ∧
    ∀ u, inited (State.resetWith cfg) u = false) ∧
  ∀ (s : State) (rest : List Input), s.pending = .hardReset :: rest →
    ∃ t, step s = .next t ∧ t.status = 0 ∧ (∀ u, inited t u = false) ∧ t.cfg = s.cfg ∧ t.pending = rest ∧
      t.responses = s.responses

/-- The invariant holds right after reset, in both configurations of the spec (R8, R150). That the cursors lie in their
rings and the memories are listed in canonical form then rests on the model's reset values (logs 6 and 7). -/
def Obligations.InvariantHoldsAtReset : Prop :=
  State.reset.Inv ∧ (State.resetWith Config.tiny).Inv

/-- Every step keeps the invariant: memories in canonical form and inside their sizes, cursors in their rings, reserved
STATUS bits 0, and in every initialised unit tunables in range, derived registers those of the tunables, and dynamic
registers those of some tick of a cycle (R23, R25, R28 to R32, R35, R81, R133, R134). -/
def Obligations.EveryStepKeepsTheInvariant : Prop :=
  ∀ s t : State, s.Inv → step s = .next t → t.Inv

/-- The step function is total: from a state of the invariant every input, each of the 2^64 words among them, is
answered with a next state; no index falls outside a memory and no divisor is 0 (R20, R39, R140). -/
def Obligations.StepIsTotal : Prop :=
  ∀ s : State, s.Inv → ∃ t, step s = .next t

/-- What a command word is checked for, in which order, and what a fault does (R141, R142): if the check fails, the step
takes the fault of the lowest code, which sets that one STATUS bit, answers `FAULT = code`, `VALUE = 0` and changes
nothing else; if it does not, the command is answered with one response of `FAULT = 0`. -/
def Obligations.CommandsFaultByCheckOrder : Prop :=
  ∀ (s : State) (w : CommandWord) (rest : List Input), s.pending = .command w :: rest → s.cfg.Legal →
    (checkFault s w ≠ 0 → step s = .next (faulted (checkFault s w) { s with pending := rest })) ∧
    (checkFault s w = 0 → ∀ t, step s = .next t →
      ∃ v, t.responses = word 0 v :: s.responses ∧ t.pending = rest ∧ t.cfg = s.cfg)

/-! Rules of the whole block. -/

/-- STATUS bits are sticky: a step that is no hardware reset leaves every set bit set, and never sets a bit that does not
exist: 0, 7 and 9 to 31 (R23). -/
def Obligations.StatusBitsAreSticky : Prop :=
  ∀ s t : State, step s = .next t → s.pending.head? ≠ some .hardReset →
    s.status &&& t.status = s.status ∧ t.status &&& ~~~(s.status ||| 0x17E#32) = 0

/-- INITED of a unit is set by that unit's INIT, and no command changes it otherwise (R24). -/
def Obligations.OnlyInitChangesInited : Prop :=
  ∀ (i : Instr) (s t : State), exec i s = .next t →
    ∀ u, inited t u = (inited s u || (unitOf (encode i) == u && opOf (encode i) == 1))

/-- A command changes only its own unit, STATUS and the response (R7): every other unit, its memories among them, the
configuration and the inputs still to come stay as they are; STATUS only gains bits. -/
def Obligations.CommandsTouchOnlyTheirUnit : Prop :=
  ∀ (i : Instr) (s t : State), exec i s = .next t →
    (∀ u, u ≠ i.unit → SameUnit u t s) ∧ t.cfg = s.cfg ∧ t.pending = s.pending ∧
    ∃ (m : BitVec 32) (r : ResponseWord), t.status = s.status ||| m ∧ t.responses = r :: s.responses

/-- A command of a unit other than GLB reads only its own unit, and HB if it is a PROC of a buffer-reading unit (R7): in
two states that agree there it gives the same response, the same new state of its unit and sets the same STATUS bits. So
no command reads STATUS, another unit, or what earlier responses were. -/
def Obligations.CommandsReadOnlyTheirUnit : Prop :=
  ∀ (i : Instr) (s1 s2 t1 : State), i.unit ≠ .glb → s1.cfg = s2.cfg → SameUnit i.unit s1 s2 →
    (opOf (encode i) = 5 → i.unit ≠ .rev → s1.shb = s2.shb) → exec i s1 = .next t1 →
    ∃ (t2 : State) (m : BitVec 32) (r : ResponseWord), exec i s2 = .next t2 ∧ SameUnit i.unit t1 t2 ∧
      t1.responses = r :: s1.responses ∧ t2.responses = r :: s2.responses ∧
      t1.status = s1.status ||| m ∧ t2.status = s2.status ||| m

/-- The frame of the memories: HB changes only under SHB.INIT and in the one cell that SHB.PUSH writes, the cell at
`SHB.CUR`; a line of REV changes only under REV.INIT and REV.SET and in the one cell that REV.PROC writes, the cell at
`REV.RCUR`; every other command leaves every cell as it was (R34, R41). -/
def Obligations.OnlyNamedCommandsWriteMemory : Prop :=
  ∀ (i : Instr) (s t : State), exec i s = .next t →
    (i ≠ .shbInit → ∀ a, (∀ x, i = .shbPush x → a ≠ s.shb.cur) →
      Memory.read t.shb.hb a = Memory.read s.shb.hb a) ∧
    ((∀ fs, i ≠ .revInit fs) → (∀ v, i ≠ .revSetTime v) → (∀ v, i ≠ .revSetGain v) →
      ∀ (k : Fin 4) (a : Nat), (∀ x, i = .revProc x → a ≠ s.rev.rcur) →
        Memory.read (at4 t.rev.rb k) a = Memory.read (at4 s.rev.rb k) a)

/-- What hardware reset leaves unspecified is unobservable (R150): two states that differ only in what uninitialised units
hold answer every input alike, and stay so. -/
def Obligations.UnspecifiedStateIsUnobservable : Prop :=
  ∀ s s' t : State, SameButUninitialised s s' → step s = .next t →
    ∃ t', step s' = .next t' ∧ SameButUninitialised t t'

/-- INIT gives the same state of its unit for the same operand, whatever the unit held before (R151). -/
def Obligations.InitForgetsWhatTheUnitHeld : Prop :=
  ∀ (i : Instr) (s1 s2 t1 t2 : State), opOf (encode i) = 1 → s1.cfg = s2.cfg →
    exec i s1 = .next t1 → exec i s2 = .next t2 → SameUnit i.unit t1 t2

/-- Every numeric register of an initialised unit lies in the range of its row in 10_state.md (R28, R29, R30, R31, R32),
for every state of the invariant: the sample rates, tunables, derived and dynamic registers of the grain units, FBE, FFE
and REV, and the cursor of SHB. `W[n] = 0` for `n ≥ REPEATS`, and `DRYW + WETW ≤ GAIN` (R80), so that neither weight
exceeds 32768. (INITED and ENABLE are `Bool`s and a memory cell is a 16-bit word, so their rows hold by type.) -/
def Obligations.RegistersStayInTheirRanges : Prop :=
  ∀ s : State, s.Inv →
    (s.shb.inited = true → s.shb.cur < s.cfg.n) ∧
    (∀ g, (s.grain g).inited = true →
      let u := s.grain g
      let gc := s.cfg.grain g
      (s.cfg.fsMin ≤ u.fs ∧ u.fs ≤ s.cfg.fsMax ∧ gc.shiftMin ≤ u.shift ∧ u.shift ≤ gc.shiftMax ∧
        u.mix ≤ 32768 ∧ u.gain ≤ 32768) ∧
      (16384 ≤ u.prq ∧ u.prq ≤ 32768 ∧ u.dy ≤ gc.cycle ∧
        10 ≤ u.k1init ∧ u.k1init ≤ 10 + gc.blend + gc.cycle ∧ 10 ≤ u.k2init ∧ u.k2init ≤ 10 + gc.blend ∧
        -(gc.cycle : Int) ≤ u.d1 ∧ u.d1 ≤ gc.cycle ∧ -2 * (gc.cycle : Int) ≤ u.d2 ∧ u.d2 ≤ 0 ∧
        0 ≤ u.d3 ∧ u.d3 ≤ 2 * gc.cycle ∧ u.dryw + u.wetw ≤ u.gain) ∧
      u.i < gc.cycle ∧ 10 ≤ u.k1 ∧ u.k1 < s.cfg.n ∧ 10 ≤ u.k2 ∧ u.k2 < s.cfg.n ∧
      -2 * (gc.cycle : Int) + 1 ≤ u.d ∧ u.d ≤ 2 * gc.cycle ∧
      -2 * (gc.cycle : Int) ≤ u.ad2 ∧ u.ad2 ≤ 0 ∧ 0 ≤ u.ad3 ∧ u.ad3 ≤ 2 * gc.cycle) ∧
    (s.fbe.inited = true →
      s.cfg.fsMin ≤ s.fbe.fs ∧ s.fbe.fs ≤ s.cfg.fsMax ∧ s.fbe.ms ≤ s.cfg.msMax ∧
      10 ≤ s.fbe.off ∧ s.fbe.off < s.cfg.n ∧ s.fbe.decay ≤ s.cfg.decayFbMax ∧ s.fbe.gain ≤ 32768 ∧
      s.fbe.scale ≤ 32768) ∧
    (s.ffe.inited = true →
      s.cfg.fsMin ≤ s.ffe.fs ∧ s.ffe.fs ≤ s.cfg.fsMax ∧ s.ffe.ms ≤ s.cfg.msMax ∧
      10 ≤ s.ffe.off ∧ s.ffe.off < s.cfg.n ∧ 1 ≤ s.ffe.repeats ∧ s.ffe.repeats ≤ 8 ∧
      s.ffe.decay ≤ 32768 ∧ s.ffe.gain ≤ 32768 ∧ s.ffe.scale ≤ 32768 ∧
      (∀ k, s.ffe.w.get k ≤ 32768) ∧ ∀ k, s.ffe.repeats ≤ k → s.ffe.w.get k = 0) ∧
    (s.rev.inited = true →
      s.cfg.fsMin ≤ s.rev.fs ∧ s.rev.fs ≤ s.cfg.fsMax ∧ s.rev.time ≤ s.cfg.rtMax ∧ s.rev.gain ≤ 32768 ∧
      s.rev.rcur < s.cfg.lineLen ∧ -33554432 ≤ s.rev.tcz ∧ s.rev.tcz ≤ 33554432 ∧
      ∀ k : Fin 4, at4 s.rev.gdc k ≤ 32768 ∧ at4 s.rev.gny k ≤ 32768 ∧ at4 s.rev.gc k ≤ 32768 ∧
        at4 s.rev.gp k ≤ 32768 ∧ -65536 ≤ at4 s.rev.z k ∧ at4 s.rev.z k ≤ 65536)

/-- ENABLE has no effect on any command (R24, R89, R105, R118, R129): a command that neither writes it (INIT, SWITCH) nor
reads it back (PEEK 1) does the same whatever the ENABLE bits are. -/
def Obligations.EnableHasNoEffectOnCommands : Prop :=
  ∀ (i : Instr) (b : Bool) (s t : State), opOf (encode i) ≠ 1 → opOf (encode i) ≠ 4 →
    ¬(opOf (encode i) = 9 ∧ selOf (encode i) = 1) → exec i s = .next t →
    exec i (withEnable b s) = .next (withEnable b t)

/-- The order of the SETs of a unit never matters, and of two SETs of one parameter the last one counts (R25, R63).
DELAY_MS and DELAY_SMP set one parameter, the tap. -/
def Obligations.OrderOfSettersNeverMatters : Prop :=
  ∀ (i j : Instr) (p q : Nat × Nat) (s : State), s.Inv → setParameter i = some p → setParameter j = some q →
    (p.1 = q.1 → p.2 ≠ q.2 → execAll [i, j] s = execAll [j, i] s) ∧
    (p = q → ∀ t t' : State, execAll [i, j] s = .next t → exec j s = .next t' →
      { t with responses := [] } = { t' with responses := [] })

/-- Every SET clamps its operand: an operand out of range does what the nearest legal value does (R18, R54). -/
def Obligations.SettersClampTheirOperand : Prop :=
  ∀ (s : State) (v : Word32), s.cfg.Legal →
    (∀ g, exec (Instr.grainSetShift v g) s =
        exec (Instr.grainSetShift (clampedWord v (s.cfg.grain g).shiftMin (s.cfg.grain g).shiftMax) g) s ∧
      exec (Instr.grainSetMix v g) s = exec (Instr.grainSetMix (clampedWord v 0 32768) g) s ∧
      exec (Instr.grainSetGain v g) s = exec (Instr.grainSetGain (clampedWord v 0 32768) g) s) ∧
    exec (.fbeSetDelayMs v) s = exec (.fbeSetDelayMs (clampedWord v 0 s.cfg.msMax)) s ∧
    exec (.fbeSetDecay v) s = exec (.fbeSetDecay (clampedWord v 0 s.cfg.decayFbMax)) s ∧
    exec (.fbeSetGain v) s = exec (.fbeSetGain (clampedWord v 0 32768)) s ∧
    exec (.fbeSetDelaySmp v) s = exec (.fbeSetDelaySmp (clampedWord v 10 (s.cfg.n - 1))) s ∧
    exec (.ffeSetDelayMs v) s = exec (.ffeSetDelayMs (clampedWord v 0 s.cfg.msMax)) s ∧
    exec (.ffeSetRepeats v) s = exec (.ffeSetRepeats (clampedWord v 1 8)) s ∧
    exec (.ffeSetDecay v) s = exec (.ffeSetDecay (clampedWord v 0 32768)) s ∧
    exec (.ffeSetGain v) s = exec (.ffeSetGain (clampedWord v 0 32768)) s ∧
    exec (.ffeSetDelaySmp v) s = exec (.ffeSetDelaySmp (clampedWord v 10 (s.cfg.n - 1))) s ∧
    exec (.revSetTime v) s = exec (.revSetTime (clampedWord v 0 s.cfg.rtMax)) s ∧
    exec (.revSetGain v) s = exec (.revSetGain (clampedWord v 0 32768)) s

/-- Importing a unit's own parameter vector with SETPARAMS leaves the unit as it is: a grain unit always, an echo unit if
its tap is that of its milliseconds (R54, R63, R77). -/
def Obligations.ReimportingParametersKeepsTheUnit : Prop :=
  ∀ s : State, s.Inv → s.cfg.msMax < 2 ^ 31 →
    (∀ g, (s.grain g).inited = true →
      execPseudo (.grainSetParams g (BitVec.ofNat 32 (s.grain g).shift) (BitVec.ofNat 32 (s.grain g).mix)
        (BitVec.ofNat 32 (s.grain g).gain)) s = .next (replied 0 (replied 0 (replied 0 s)))) ∧
    (s.fbe.inited = true → s.fbe.off = tapFor s.cfg s.fbe.fs s.fbe.ms →
      execPseudo (.fbeSetParams (BitVec.ofNat 32 s.fbe.ms) (BitVec.ofNat 32 s.fbe.decay) (BitVec.ofNat 32 s.fbe.gain)) s
        = .next (replied 0 (replied 0 (replied 0 s)))) ∧
    (s.ffe.inited = true → s.ffe.off = tapFor s.cfg s.ffe.fs s.ffe.ms →
      execPseudo (.ffeSetParams (BitVec.ofNat 32 s.ffe.ms) (BitVec.ofNat 32 s.ffe.repeats)
        (BitVec.ofNat 32 s.ffe.decay) (BitVec.ofNat 32 s.ffe.gain)) s
        = .next (replied 0 (replied 0 (replied 0 (replied 0 s)))))

/-! Unit GLB. -/

/-- GLB.NOP and GLB.PEEK complete in every state and change nothing (R138, R139): selector 0 answers STATUS, 1 answers N,
2 answers the identification value, 3 the map in which bit `u` is INITED of unit number `u` and every other bit is 0.
Covers glbNop, glbPeek. -/
def Obligations.GlobalCommandsAnswer : Prop :=
  ∀ s : State,
    exec .glbNop s = .next (replied 0 s) ∧
    exec (.glbPeek 0) s = .next (replied s.status s) ∧
    exec (.glbPeek 1) s = .next (replied (BitVec.ofNat 32 s.cfg.n) s) ∧
    exec (.glbPeek 2) s = .next (replied 0x47535007 s) ∧
    ∃ v, exec (.glbPeek 3) s = .next (replied v s) ∧ ∀ u, v.getLsbD u = inited s u

/-! Unit SHB. -/

/-- SHB.INIT completes in every state, clears every cell of HB and the cursor, and changes nothing outside SHB (R70).
Covers shbInit. -/
def Obligations.HistoryInitClears : Prop :=
  ∀ s : State, ∃ h : Memory, exec .shbInit s = .next (replied 0 { s with shb := { inited := true, cur := 0, hb := h } }) ∧
    Memory.wf h = true ∧ ∀ a, Memory.read h a = 0

/-- SHB.PUSH writes the sample into the cursor's cell and into no other, advances the cursor by one modulo N, and answers
the index of the cell it wrote (R71). Covers shbPush. -/
def Obligations.PushWritesTheCursorCell : Prop :=
  ∀ (s : State) (x : Word32), s.shb.inited = true → s.shb.cur < s.cfg.n → Memory.wf s.shb.hb = true → IsSample x →
    ∃ h : Memory,
      exec (.shbPush x) s = .next (replied (BitVec.ofNat 32 s.shb.cur)
        { s with shb := { inited := true, cur := (s.shb.cur + 1) % s.cfg.n, hb := h } }) ∧
      Memory.wf h = true ∧
      ∀ a, (Memory.read h a).toInt = if a = s.shb.cur then x.toInt else (Memory.read s.shb.hb a).toInt

/-- SHB.READ answers the sample at the clamped offset behind the cursor (R72), SHB.INDEX the bare ring index (R73),
SHB.PEEK the cursor, N or K_MIN (R74); none of them changes any state. An INDEX offset outside `[0, N)` is E_OPERAND.
Covers shbRead, shbIndex, shbPeek. -/
def Obligations.ReadIndexAndPeekAnswer : Prop :=
  ∀ s : State, s.shb.inited = true →
    (∀ (c : BitVec 16) (o : Word32), s.cfg.Legal → c.toNat < s.cfg.n →
      exec (.shbRead c o) s = .next (replied (BitVec.ofInt 32 (tap s c (clamped o 10 (s.cfg.n - 1)))) s)) ∧
    (∀ (c : BitVec 16) (o : Word32), c.toNat < s.cfg.n → 0 ≤ o.toInt → o.toInt < s.cfg.n →
      exec (.shbIndex c o) s = .next (replied (BitVec.ofInt 32 (((c.toNat : Int) - o.toInt) % s.cfg.n)) s)) ∧
    (∀ (c : BitVec 16) (o : Word32), o.toInt < 0 ∨ s.cfg.n ≤ o.toInt →
      exec (.shbIndex c o) s = .next (faulted 6 s)) ∧
    exec (.shbPeek 0) s = .next (replied (BitVec.ofNat 32 s.shb.cur) s) ∧
    exec (.shbPeek 1) s = .next (replied (BitVec.ofNat 32 s.cfg.n) s) ∧
    exec (.shbPeek 2) s = .next (replied 10 s)

/-- The history buffer keeps the last N samples pushed (R69): after any sequence of pushes the cell `o` behind the last
one written holds the sample pushed `o` pushes before, and what it held before the sequence if that is shorter; the
cursor has advanced by one for each push; nothing else changes. -/
def Obligations.PushedHistoryReadsBack : Prop :=
  ∀ (s : State) (xs : List Word32), s.Inv → s.shb.inited = true → (∀ x ∈ xs, IsSample x) →
    ∃ t, execAll (xs.map .shbPush) s = .next t ∧ t = { s with shb := t.shb, responses := t.responses } ∧
      t.shb.inited = true ∧ t.shb.cur = (s.shb.cur + xs.length) % s.cfg.n ∧
      ∀ o < s.cfg.n, cellAt t.shb.hb ((t.shb.cur : Int) - 1 - o) s.cfg.n =
        if o < xs.length then (xs.getD (xs.length - 1 - o) 0).toInt
        else cellAt s.shb.hb ((s.shb.cur : Int) - 1 - (o - xs.length)) s.cfg.n

/-- It makes no difference whether the host pushes the sample of a tick before or after it issues the PROC of a grain
unit or of the feedback echo with the cursor of that tick (R69): only the two responses change places. -/
def Obligations.PushMayComeBeforeOrAfterProc : Prop :=
  ∀ (s : State) (v x : Word32) (i : Instr), s.Inv →
    (i = .fbeProc (BitVec.ofNat 16 s.shb.cur) x ∨ ∃ g, i = Instr.grainProc (BitVec.ofNat 16 s.shb.cur) x g) →
    ∃ (t : State) (r p : ResponseWord),
      execAll [.shbPush v, i] s = .next { t with responses := r :: p :: s.responses } ∧
      execAll [i, .shbPush v] s = .next { t with responses := p :: r :: s.responses }

/-! Units DET, OCT, PSH. -/

/-- INIT of a grain unit completes in every state of a legal configuration (R84): the clamped rate, the default tunables,
the derived registers of those, the first tick of a cycle, disabled and initialised. Covers detInit, octInit, pshInit. -/
def Obligations.GrainInitSetsDefaults : Prop :=
  ∀ (g : GrainId) (fs : Word32) (s : State), s.cfg.Legal →
    ∃ u : Grain, exec (Instr.grainInit fs g) s = .next (replied 0 (s.setGrain g u)) ∧
      u.inited = true ∧ u.enable = false ∧ u.fs = clamped fs s.cfg.fsMin s.cfg.fsMax ∧
      u.shift = (s.cfg.grain g).shiftDef ∧ u.mix = s.cfg.mixDef ∧ u.gain = s.cfg.ggainDef ∧
      GrainDerived (s.cfg.grain g) u ∧ AtCycleStart u

/-- The SETs of a grain unit store the clamped value and recompute the derived registers; no dynamic register changes
(R79, R85, R86, R87). Covers detSetShift, octSetShift, pshSetShift, detSetMix, octSetMix, pshSetMix, detSetGain,
octSetGain, pshSetGain. -/
def Obligations.GrainSettersRecompute : Prop :=
  ∀ (g : GrainId) (v : Word32) (s : State), s.Inv → (s.grain g).inited = true →
    (∃ u, exec (Instr.grainSetShift v g) s = .next (replied 0 (s.setGrain g u)) ∧ GrainDerived (s.cfg.grain g) u ∧
      u = withDerived { s.grain g with
        shift := clamped v (s.cfg.grain g).shiftMin (s.cfg.grain g).shiftMax } u) ∧
    (∃ u, exec (Instr.grainSetMix v g) s = .next (replied 0 (s.setGrain g u)) ∧ GrainDerived (s.cfg.grain g) u ∧
      u = withDerived { s.grain g with mix := clamped v 0 32768 } u) ∧
    (∃ u, exec (Instr.grainSetGain v g) s = .next (replied 0 (s.setGrain g u)) ∧ GrainDerived (s.cfg.grain g) u ∧
      u = withDerived { s.grain g with gain := clamped v 0 32768 } u)

/-- GET of a grain unit answers the tunable, PEEK the register, of the selector, and SWITCH changes only ENABLE (R88, R89,
R93). Covers detGet, octGet, pshGet, detSwitch, octSwitch, pshSwitch, detPeek, octPeek, pshPeek. -/
def Obligations.GrainGetSwitchAndPeekAnswer : Prop :=
  ∀ (g : GrainId) (s : State), (s.grain g).inited = true →
    (∀ sel : BitVec 8, sel.toNat < 3 →
      exec (Instr.grainGet sel g) s = .next (replied (BitVec.ofInt 32 (grainRegister (s.grain g) (3 + sel.toNat))) s)) ∧
    (∀ on : Bool, exec (Instr.grainSwitch on g) s = .next (replied 0 (s.setGrain g { s.grain g with enable := on }))) ∧
    ∀ sel : BitVec 8, sel.toNat < 21 →
      exec (Instr.grainPeek sel g) s = .next (replied (BitVec.ofInt 32 (grainRegister (s.grain g) sel.toNat)) s)

/-- PROC of a grain unit, one tick (R90): the taps behind the cursor, the crossfade inside the blend region and the main
tap outside it, the mix, its low 16 bits as the response, GOVF (STATUS bit 8) when they lose something, one step of the
taps and of the accumulator by the signs before the tick, and the cycle load at the end of the cycle. Nothing else
changes, HB included. Before INIT of the unit or of SHB it is E_NOINIT, and after both a cursor outside HB or an operand
that is no sample is E_OPERAND. Covers detProc, octProc, pshProc. -/
def Obligations.GrainProcIsOneTick : Prop :=
  ∀ (g : GrainId) (c : BitVec 16) (x : Word32) (s : State),
    ((s.grain g).inited = false ∨ s.shb.inited = false → exec (Instr.grainProc c x g) s = .next (faulted 5 s)) ∧
    ((s.grain g).inited = true → s.shb.inited = true → s.cfg.n ≤ c.toNat ∨ ¬IsSample x →
      exec (Instr.grainProc c x g) s = .next (faulted 6 s)) ∧
    (s.Inv → (s.grain g).inited = true → s.shb.inited = true → c.toNat < s.cfg.n → IsSample x →
      let u := s.grain g
      let gc := s.cfg.grain g
      let t1 := tap s c u.k1
      let t2 := tap s c u.k2
      let j := u.i * 256 / gc.blend
      let gr : Int :=
        if u.i < gc.blend then
          match gc.xf with
          | .linear => (u.i * t1 + ((gc.blend : Int) - u.i) * t2).tdiv gc.blend
          | .eqPower => ((s.cfg.sinq.getD j 0 : Nat) * t1 + (s.cfg.sinq.getD (256 - j) 0 : Nat) * t2).tdiv 32768
        else t1
      let y : Int := (u.dryw * x.toInt + u.wetw * gr).tdiv 32768
      let out : Int := (y + 32768) % 65536 - 32768
      let v : Grain :=
        if 0 < u.d then
          { u with k1 := u.k1 - 1, k2 := if u.i < gc.blend then u.k2 - 1 else u.k2, d := u.d + u.ad2, i := u.i + 1 }
        else { u with d := u.d + u.ad3, i := u.i + 1 }
      let w : Grain :=
        if u.i + 1 = gc.cycle then
          { v with i := 0, k1 := u.k1init, k2 := u.k2init, d := u.d1, ad2 := u.d2, ad3 := u.d3 }
        else v
      exec (Instr.grainProc c x g) s = .next (replied (BitVec.ofInt 32 out)
        ({ s with status := if out = y then s.status else s.status ||| 0x100#32 }.setGrain g w)))

/-- In every state of the invariant the phase of an initialised grain unit lies in its cycle and both taps lie in their
bounds, inside HB (R94). -/
def Obligations.GrainTapsStayInBounds : Prop :=
  ∀ (g : GrainId) (s : State), s.Inv → (s.grain g).inited = true →
    let u := s.grain g
    let gc := s.cfg.grain g
    u.i ≤ gc.cycle - 1 ∧ 10 ≤ u.k2 ∧ u.k2 ≤ 10 + gc.blend ∧ 10 ≤ u.k1 ∧ u.k1 ≤ 10 + gc.blend + gc.cycle ∧
    u.k1 ≤ s.cfg.n - 1 ∧ u.k2 ≤ s.cfg.n - 1

/-- The rate accumulator spreads `dy` steps evenly over a cycle (R81): after `m` ticks from the start of a cycle it has made
`y_m = (2·m·dy + C − 1) div (2·C)` steps and holds `D1 + 2·dy·m − 2·C·y_m`; it stays above `2·(dy − C)` and at or below
`2·dy`; tick `m` steps exactly when `y_{m+1} = y_m + 1`, and otherwise `y_{m+1} = y_m`; a cycle makes `dy` steps. -/
def Obligations.RateAccumulatorSpreadsSteps : Prop :=
  ∀ (gc : GrainConfig) (u : Grain) (dy : Nat), 1 ≤ gc.cycle → dy ≤ gc.cycle → dy ≤ u.k1 →
    u.i = 0 → u.d = 2 * (dy : Int) - gc.cycle → u.ad2 = 2 * ((dy : Int) - gc.cycle) → u.ad3 = 2 * (dy : Int) →
    let y := fun m : Nat => (2 * m * dy + gc.cycle - 1) / (2 * gc.cycle)
    let v := fun m : Nat => (grainStep gc)^[m] u
    y 0 = 0 ∧ y gc.cycle = dy ∧
    ∀ m < gc.cycle,
      (v m).i = m ∧ (v m).k1 = u.k1 - y m ∧ (v m).d = u.d + 2 * dy * m - 2 * gc.cycle * y m ∧
      2 * ((dy : Int) - gc.cycle) < (v m).d ∧ (v m).d ≤ 2 * dy ∧
      (0 < (v m).d ↔ y (m + 1) = y m + 1) ∧ (y (m + 1) = y m + 1 ∨ y (m + 1) = y m) ∧
      (v (m + 1)).k1 = u.k1 - y (m + 1)

/-- A grain unit is periodic (R95): `C` PROCs in a row bring it back to exactly the state it was in, provided the running
cycle has the geometry of the derived registers (no SET changed it since the last cycle load), and the PROC that ends
the running cycle leaves it at the start of a cycle, whatever SETs came before. -/
def Obligations.GrainCycleIsPeriodic : Prop :=
  ∀ (g : GrainId) (ops : List (BitVec 16 × Word32)) (s : State), s.Inv → (s.grain g).inited = true →
    s.shb.inited = true → (∀ p ∈ ops, p.1.toNat < s.cfg.n ∧ IsSample p.2) →
    (ops.length = (s.cfg.grain g).cycle → (s.grain g).ad2 = (s.grain g).d2 → (s.grain g).ad3 = (s.grain g).d3 →
      ∃ t, execAll (ops.map fun p => Instr.grainProc p.1 p.2 g) s = .next t ∧ t.grain g = s.grain g) ∧
    (ops.length = (s.cfg.grain g).cycle - (s.grain g).i →
      ∃ t, execAll (ops.map fun p => Instr.grainProc p.1 p.2 g) s = .next t ∧
        AtCycleStart (t.grain g) ∧ withDerived (t.grain g) (s.grain g) = t.grain g)

/-- A grain unit with the linear crossfade never narrows its output with loss: its PROC never sets GOVF (R92). -/
def Obligations.LinearGrainNeverSetsGovf : Prop :=
  ∀ (g : GrainId) (c : BitVec 16) (x : Word32) (s t : State), s.Inv → (s.cfg.grain g).xf = .linear →
    exec (Instr.grainProc c x g) s = .next t → t.status &&& 0x100#32 = s.status &&& 0x100#32

/-- The weights of the linear crossfade sum to `B`, so two equal taps come out exactly, and the output lies between the
taps (R96). -/
def Obligations.LinearCrossfadeConservesWeight : Prop :=
  ∀ (cfg : Config) (gc : GrainConfig) (i : Nat), gc.xf = .linear → i < gc.blend →
    i + (gc.blend - i) = gc.blend ∧ (∀ t : Int, crossfade cfg gc i t t = t) ∧
    ∀ t1 t2 : Int, min t1 t2 ≤ crossfade cfg gc i t1 t2 ∧ crossfade cfg gc i t1 t2 ≤ max t1 t2

/-! Unit FBE. -/

/-- FBE.INIT completes in every state of a legal configuration (R99). Covers fbeInit. -/
def Obligations.FeedbackEchoInitSetsDefaults : Prop :=
  ∀ (fs : Word32) (s : State), s.cfg.Legal →
    ∃ u : Fbe, exec (.fbeInit fs) s = .next (replied 0 { s with fbe := u }) ∧
      u.inited = true ∧ u.enable = false ∧ u.fs = clamped fs s.cfg.fsMin s.cfg.fsMax ∧ u.ms = s.cfg.fbDefMs ∧
      u.off = tapFor s.cfg u.fs s.cfg.fbDefMs ∧ u.decay = s.cfg.fbDefDecay ∧ u.gain = s.cfg.fbDefGain ∧
      FbeDerived s.cfg u

/-- The SETs of FBE store the clamped value and recompute SCALE; DELAY_MS also derives the tap and DELAY_SMP the
milliseconds (R76, R77, R98, R100 to R103). Covers fbeSetDelayMs, fbeSetDecay, fbeSetGain, fbeSetDelaySmp. -/
def Obligations.FeedbackEchoSettersRecompute : Prop :=
  ∀ (v : Word32) (s : State), s.Inv → s.fbe.inited = true →
    (∃ u, exec (.fbeSetDelayMs v) s = .next (replied 0 { s with fbe := u }) ∧ FbeDerived s.cfg u ∧
      u = { s.fbe with ms := clamped v 0 s.cfg.msMax, off := tapFor s.cfg s.fbe.fs (clamped v 0 s.cfg.msMax),
                       scale := u.scale }) ∧
    (∃ u, exec (.fbeSetDecay v) s = .next (replied 0 { s with fbe := u }) ∧ FbeDerived s.cfg u ∧
      u = { s.fbe with decay := clamped v 0 s.cfg.decayFbMax, scale := u.scale }) ∧
    (∃ u, exec (.fbeSetGain v) s = .next (replied 0 { s with fbe := u }) ∧ FbeDerived s.cfg u ∧
      u = { s.fbe with gain := clamped v 0 32768, scale := u.scale }) ∧
    (∃ (u : Fbe) (q : Nat), exec (.fbeSetDelaySmp v) s = .next (replied 0 { s with fbe := u }) ∧ FbeDerived s.cfg u ∧
      IsFloor q (clamped v 10 (s.cfg.n - 1) * 1000 + s.fbe.fs / 2 : Nat) s.fbe.fs ∧
      u = { s.fbe with off := clamped v 10 (s.cfg.n - 1), ms := min s.cfg.msMax q, scale := u.scale })

/-- GET of FBE answers the parameter, PEEK the register, of the selector, and SWITCH changes only ENABLE (R104, R105,
R107). Covers fbeGet, fbeSwitch, fbePeek. -/
def Obligations.FeedbackEchoGetSwitchAndPeekAnswer : Prop :=
  ∀ s : State, s.fbe.inited = true →
    (∀ sel : BitVec 8, sel.toNat < 4 → exec (.fbeGet sel) s =
      .next (replied (BitVec.ofNat 32 ([s.fbe.ms, s.fbe.decay, s.fbe.gain, s.fbe.off].getD sel.toNat 0)) s)) ∧
    (∀ on : Bool, exec (.fbeSwitch on) s = .next (replied 0 { s with fbe := { s.fbe with enable := on } })) ∧
    ∀ sel : BitVec 8, sel.toNat < 8 → exec (.fbePeek sel) s =
      .next (replied (BitVec.ofNat 32 (fbeRegister s.fbe sel.toNat)) s)

/-- FBE.PROC answers the clamped weighted sum of the sample and the tap, and changes nothing (R106). Before INIT of FBE or
SHB it is E_NOINIT, and after both a cursor outside HB or an operand that is no sample is E_OPERAND. Covers fbeProc. -/
def Obligations.FeedbackEchoProcAnswers : Prop :=
  ∀ (c : BitVec 16) (x : Word32) (s : State),
    (s.fbe.inited = false ∨ s.shb.inited = false → exec (.fbeProc c x) s = .next (faulted 5 s)) ∧
    (s.fbe.inited = true → s.shb.inited = true → s.cfg.n ≤ c.toNat ∨ ¬IsSample x →
      exec (.fbeProc c x) s = .next (faulted 6 s)) ∧
    (s.fbe.inited = true → s.shb.inited = true → s.fbe.off < s.cfg.n → c.toNat < s.cfg.n → IsSample x →
      exec (.fbeProc c x) s = .next (replied (BitVec.ofInt 32
        (clip ((s.fbe.scale * x.toInt + s.fbe.decay * tap s c s.fbe.off).tdiv 32768))) s))

/-- The impulse response of the feedback echo with recirculation (R108, R109): from a cleared HB, with the impulse at tick
0, tick `m` gives echo number `m / OFF` if `OFF` divides `m` and 0 otherwise, for every `m`, also past N ticks. -/
def Obligations.FeedbackEchoImpulseResponse : Prop :=
  ∀ (s : State) (a : Word32) (m : Nat), s.Inv → s.fbe.inited = true → s.shb.inited = true →
    (∀ i, Memory.read s.shb.hb i = 0) → IsSample a →
    ∃ t, echoRun (a :: List.replicate m 0) s = .next t ∧
      t.responses[1]? = some (word 0 (BitVec.ofInt 32
        (if s.fbe.off ∣ m then echoHeight s.fbe.scale s.fbe.decay a.toInt (m / s.fbe.off) else 0)))

/-! Unit FFE. -/

/-- FFE.INIT completes in every state of a legal configuration (R111). Covers ffeInit. -/
def Obligations.FeedforwardEchoInitSetsDefaults : Prop :=
  ∀ (fs : Word32) (s : State), s.cfg.Legal →
    ∃ u : Ffe, exec (.ffeInit fs) s = .next (replied 0 { s with ffe := u }) ∧
      u.inited = true ∧ u.enable = false ∧ u.fs = clamped fs s.cfg.fsMin s.cfg.fsMax ∧ u.ms = s.cfg.ffDefMs ∧
      u.off = tapFor s.cfg u.fs s.cfg.ffDefMs ∧ u.repeats = s.cfg.ffDefRepeats ∧ u.decay = s.cfg.ffDefDecay ∧
      u.gain = s.cfg.ffDefGain ∧ FfeDerived u

/-- The SETs of FFE store the clamped value and recompute SCALE and the weights; DELAY_MS also derives the tap and
DELAY_SMP the milliseconds (R76, R77, R110, R112 to R116). Covers ffeSetDelayMs, ffeSetRepeats, ffeSetDecay, ffeSetGain,
ffeSetDelaySmp. -/
def Obligations.FeedforwardEchoSettersRecompute : Prop :=
  ∀ (v : Word32) (s : State), s.Inv → s.ffe.inited = true →
    (∃ u, exec (.ffeSetDelayMs v) s = .next (replied 0 { s with ffe := u }) ∧ FfeDerived u ∧
      u = { s.ffe with ms := clamped v 0 s.cfg.msMax, off := tapFor s.cfg s.ffe.fs (clamped v 0 s.cfg.msMax),
                       scale := u.scale, w := u.w }) ∧
    (∃ u, exec (.ffeSetRepeats v) s = .next (replied 0 { s with ffe := u }) ∧ FfeDerived u ∧
      u = { s.ffe with repeats := clamped v 1 8, scale := u.scale, w := u.w }) ∧
    (∃ u, exec (.ffeSetDecay v) s = .next (replied 0 { s with ffe := u }) ∧ FfeDerived u ∧
      u = { s.ffe with decay := clamped v 0 32768, scale := u.scale, w := u.w }) ∧
    (∃ u, exec (.ffeSetGain v) s = .next (replied 0 { s with ffe := u }) ∧ FfeDerived u ∧
      u = { s.ffe with gain := clamped v 0 32768, scale := u.scale, w := u.w }) ∧
    (∃ (u : Ffe) (q : Nat), exec (.ffeSetDelaySmp v) s = .next (replied 0 { s with ffe := u }) ∧ FfeDerived u ∧
      IsFloor q (clamped v 10 (s.cfg.n - 1) * 1000 + s.ffe.fs / 2 : Nat) s.ffe.fs ∧
      u = { s.ffe with off := clamped v 10 (s.cfg.n - 1), ms := min s.cfg.msMax q, scale := u.scale, w := u.w })

/-- GET of FFE answers the parameter, PEEK the register, of the selector, and SWITCH changes only ENABLE (R117, R118,
R120). Covers ffeGet, ffeSwitch, ffePeek. -/
def Obligations.FeedforwardEchoGetSwitchAndPeekAnswer : Prop :=
  ∀ s : State, s.ffe.inited = true →
    (∀ sel : BitVec 8, sel.toNat < 5 → exec (.ffeGet sel) s = .next (replied (BitVec.ofNat 32
      ([s.ffe.ms, s.ffe.repeats, s.ffe.decay, s.ffe.gain, s.ffe.off].getD sel.toNat 0)) s)) ∧
    (∀ on : Bool, exec (.ffeSwitch on) s = .next (replied 0 { s with ffe := { s.ffe with enable := on } })) ∧
    ∀ sel : BitVec 8, sel.toNat < 17 → exec (.ffePeek sel) s =
      .next (replied (BitVec.ofNat 32 (ffeRegister s.ffe sel.toNat)) s)

/-- FFE.PROC answers the clamped sum of the sample and of the cells `n · OFF` behind the cursor, `1 ≤ n < REPEATS`, each
index modulo N, each weighted by `W[n]`, and changes nothing (R119). Before INIT of FFE or SHB it is E_NOINIT, and after
both a cursor outside HB or an operand that is no sample is E_OPERAND. Covers ffeProc. -/
def Obligations.FeedforwardEchoProcAnswers : Prop :=
  ∀ (c : BitVec 16) (x : Word32) (s : State),
    (s.ffe.inited = false ∨ s.shb.inited = false → exec (.ffeProc c x) s = .next (faulted 5 s)) ∧
    (s.ffe.inited = true → s.shb.inited = true → s.cfg.n ≤ c.toNat ∨ ¬IsSample x →
      exec (.ffeProc c x) s = .next (faulted 6 s)) ∧
    (s.Inv → s.ffe.inited = true → s.shb.inited = true → c.toNat < s.cfg.n → IsSample x →
      let h := fun n : Nat => if n = 0 then x.toInt else tap s c (n * s.ffe.off)
      exec (.ffeProc c x) s = .next (replied (BitVec.ofInt 32 (clip
        ((((List.range s.ffe.repeats).map fun n => (s.ffe.w.get n : Int) * h n).sum).tdiv 32768))) s))

/-! Unit REV. -/

/-- REV.INIT completes in every state of a legal configuration (R125). Covers revInit. -/
def Obligations.ReverbInitSetsDefaults : Prop :=
  ∀ (fs : Word32) (s : State), s.cfg.Legal →
    ∃ u : Rev, exec (.revInit fs) s = .next (replied 0 { s with rev := u }) ∧
      u.inited = true ∧ u.enable = false ∧ u.fs = clamped fs s.cfg.fsMin s.cfg.fsMax ∧ u.time = s.cfg.rvDefTime ∧
      u.gain = s.cfg.rvDefGain ∧ u.rcur = 0 ∧ RevDerived s.cfg u ∧ RevCleared u

/-- The SETs of REV store the clamped value, recompute the coefficients and clear the lines and the filters; the cursor
stays (R123, R124, R126, R127). Covers revSetTime, revSetGain. -/
def Obligations.ReverbSettersRecomputeAndClear : Prop :=
  ∀ (v : Word32) (s : State), s.Inv → s.rev.inited = true →
    (∃ u, exec (.revSetTime v) s = .next (replied 0 { s with rev := u }) ∧ RevDerived s.cfg u ∧ RevCleared u ∧
      u = withRecomputed { s.rev with time := clamped v 0 s.cfg.rtMax } u) ∧
    (∃ u, exec (.revSetGain v) s = .next (replied 0 { s with rev := u }) ∧ RevDerived s.cfg u ∧ RevCleared u ∧
      u = withRecomputed { s.rev with gain := clamped v 0 32768 } u)

/-- GET of REV answers the parameter, PEEK the register, of the selector, and SWITCH changes only ENABLE (R128, R129,
R131). Covers revGet, revSwitch, revPeek. -/
def Obligations.ReverbGetSwitchAndPeekAnswer : Prop :=
  ∀ s : State, s.rev.inited = true →
    (∀ sel : BitVec 8, sel.toNat < 2 → exec (.revGet sel) s =
      .next (replied (BitVec.ofNat 32 ([s.rev.time, s.rev.gain].getD sel.toNat 0)) s)) ∧
    (∀ on : Bool, exec (.revSwitch on) s = .next (replied 0 { s with rev := { s.rev with enable := on } })) ∧
    ∀ sel : BitVec 8, sel.toNat < 27 → exec (.revPeek sel) s =
      .next (replied (BitVec.ofInt 32 (revRegister s.rev sel.toNat)) s)

/-- REV.PROC, one tick of the network (R130): the four taps, the matrix of ±1 halved, the damping filters, the input added
and clamped and written into the cell at RCUR of each line and into no other cell, the tone filter, the output, and the
cursor advanced modulo L. Nothing else changes. Before REV.INIT it is E_NOINIT, after it an operand that is no sample is
E_OPERAND. Covers revProc. -/
def Obligations.ReverbProcIsOneTick : Prop :=
  ∀ (x : Word32) (s : State),
    (s.rev.inited = false → exec (.revProc x) s = .next (faulted 5 s)) ∧
    (s.rev.inited = true → ¬IsSample x → exec (.revProc x) s = .next (faulted 6 s)) ∧
    (s.Inv → s.rev.inited = true → IsSample x →
      let u := s.rev
      let len := s.cfg.n / 4
      let t := fun k : Fin 4 => cellAt (at4 u.rb k) ((u.rcur : Int) - at4 s.cfg.m k) len
      let m := fun k : Fin 4 =>
        match k with
        | 0 => (t 0 + t 1 + t 2 + t 3).tdiv 2
        | 1 => (t 0 - t 1 + t 2 - t 3).tdiv 2
        | 2 => (t 0 + t 1 - t 2 - t 3).tdiv 2
        | 3 => (t 0 - t 1 - t 2 + t 3).tdiv 2
      let f := fun k : Fin 4 => (at4 u.gc k * m k + at4 u.gp k * at4 u.z k).tdiv 32768
      let sm := t 0 + t 1 + t 2 + t 3
      let tcz := u.tcz + (s.cfg.tca * (sm * 256 - u.tcz)).tdiv 32768
      let y := sm - (s.cfg.tcb * tcz.tdiv 256).tdiv 32768
      ∃ rb : Quad Memory,
        exec (.revProc x) s = .next (replied (BitVec.ofInt 32 (clip ((u.gain * y).tdiv 32768)))
          { s with rev := { u with rb := rb, z := ⟨f 0, f 1, f 2, f 3⟩, tcz := tcz, rcur := (u.rcur + 1) % len } }) ∧
        ∀ k : Fin 4, Memory.wf (at4 rb k) = true ∧ ∀ a, (Memory.read (at4 rb k) a).toInt =
          if a = u.rcur then clip (x.toInt + f k) else (Memory.read (at4 u.rb k) a).toInt)

/-- From cleared state a silent reverberator stays silent (R135): any number of REV.PROC 0 answer 0 each and change only
RCUR. -/
def Obligations.ReverbSilenceStays : Prop :=
  ∀ (s : State) (k : Nat), s.Inv → s.rev.inited = true → RevCleared s.rev →
    execAll (List.replicate k (.revProc 0)) s =
      .next { s with rev := { s.rev with rcur := (s.rev.rcur + k) % (s.cfg.n / 4) },
                     responses := List.replicate k (word 0 0) ++ s.responses }

/-- The coefficients of an initialised REV contract (R123): the gain at Nyquist is at most the gain at zero frequency,
`GC + GP ≤ 32768`, a decay not longer than T60NY gives plain gains, and a decay of 0 gives maximal damping. -/
def Obligations.ReverbCoefficientsContract : Prop :=
  ∀ s : State, s.Inv → s.rev.inited = true → ∀ k : Fin 4,
    at4 s.rev.gny k ≤ at4 s.rev.gdc k ∧ at4 s.rev.gc k + at4 s.rev.gp k ≤ 32768 ∧
    (s.rev.time ≤ s.cfg.t60ny → at4 s.rev.gp k = 0 ∧ at4 s.rev.gc k = at4 s.rev.gdc k) ∧
    (s.rev.time = 0 → at4 s.rev.gdc k = 0 ∧ at4 s.rev.gny k = 0 ∧ at4 s.rev.gc k = 0 ∧ at4 s.rev.gp k = 0)

/-! The arithmetic. -/

/-- The ring read index lies in the ring and equals `(c − o + n) mod n`; two steps back add up, and only offset 0 is the
cursor's own cell (R16, R68). -/
def Obligations.RingIndexIsModular : Prop :=
  ∀ c o n : Nat, c < n → o < n →
    ring c o n < n ∧ (ring c o n : Int) = ((c : Int) - o + n) % n ∧ (ring c o n = c ↔ o = 0) ∧
    ∀ b < n, (ring (ring c o n) b n : Int) = ((c : Int) - o - b) % n

/-- `isqrt v` is the greatest integer whose square is at most `v` (R14). -/
def Obligations.IsqrtIsTheFloorOfTheRoot : Prop :=
  ∀ v : Nat, isqrt v * isqrt v ≤ v ∧ ∀ t : Nat, t * t ≤ v → t ≤ isqrt v

/-- The power-of-two primitive never increases, starts at 1.0, halves with every whole octave and ends at 0 (R65). -/
def Obligations.PowerOfTwoPrimitiveDecreases : Prop :=
  pow2negQ15 0 = 32768 ∧ (∀ x y : Nat, x ≤ y → pow2negQ15 y ≤ pow2negQ15 x) ∧
  (∀ x : Nat, x < 983040 → pow2negQ15 (x + 65536) = pow2negQ15 x / 2) ∧ ∀ x : Nat, 1048576 ≤ x → pow2negQ15 x = 0

/-- Entry `f` of the ROM P2N is the greatest `p` with `p^256 ≤ 2^(3840 − f)`; the table is strictly decreasing; its sum
and its exclusive-or are the spec's (R64). -/
def Obligations.PowerRomEntriesAreExact : Prop :=
  (∀ f ≤ 256, p2n f ^ 256 ≤ 2 ^ (3840 - f) ∧ 2 ^ (3840 - f) < (p2n f + 1) ^ 256) ∧
  (∀ f < 256, p2n (f + 1) < p2n f) ∧
  ((List.range 257).map p2n).sum = 6075549 ∧ ((List.range 257).map p2n).foldl Nat.xor 0 = 35437

/-- The scaling division rounds toward zero: the magnitude is the floor of the quotient of the magnitudes and the sign is
that of the dividend (R13). -/
def Obligations.ScalingRoundsTowardZero : Prop :=
  ∀ a b : Int, 0 < b →
    (0 ≤ a → b * tdiv a b ≤ a ∧ a < b * (tdiv a b + 1)) ∧ tdiv (-a) b = -tdiv a b ∧ tq15 a = tdiv a 32768
end

