-- ==== Sys2Proof/Laws/Encoding.lean ====
section
/-! SUPPORT. The fields of a packed command word (R49). -/

namespace Sys2Proof.Laws

@[simp] theorem unitField_packWord (u o : BitVec 4) (s : BitVec 8) (a : BitVec 16) (d : Word32) :
    CommandWord.unitField (packWord u o s a d) = u := by
  apply BitVec.eq_of_getLsbD_eq
  intro k hk
  simp only [CommandWord.unitField, packWord, BitVec.getLsbD_append, BitVec.getLsbD_extractLsb']
  simp [hk,
    show ¬ 60 + k < 32 by omega,
    show ¬ 60 + k - 32 < 16 by omega,
    show ¬ 60 + k - 32 - 16 < 8 by omega,
    show ¬ 60 + k - 32 - 16 - 8 < 4 by omega,
    show 60 + k - 32 - 16 - 8 - 4 = k by omega]

@[simp] theorem opField_packWord (u o : BitVec 4) (s : BitVec 8) (a : BitVec 16) (d : Word32) :
    CommandWord.opField (packWord u o s a d) = o := by
  apply BitVec.eq_of_getLsbD_eq
  intro k hk
  simp only [CommandWord.opField, packWord, BitVec.getLsbD_append, BitVec.getLsbD_extractLsb']
  simp [hk,
    show ¬ 56 + k < 32 by omega,
    show ¬ 56 + k - 32 < 16 by omega,
    show ¬ 56 + k - 32 - 16 < 8 by omega,
    show 56 + k - 32 - 16 - 8 = k by omega]

@[simp] theorem selField_packWord (u o : BitVec 4) (s : BitVec 8) (a : BitVec 16) (d : Word32) :
    CommandWord.selField (packWord u o s a d) = s := by
  apply BitVec.eq_of_getLsbD_eq
  intro k hk
  simp only [CommandWord.selField, packWord, BitVec.getLsbD_append, BitVec.getLsbD_extractLsb']
  simp [hk,
    show ¬ 48 + k < 32 by omega,
    show ¬ 48 + k - 32 < 16 by omega,
    show 48 + k - 32 - 16 = k by omega]

@[simp] theorem auxField_packWord (u o : BitVec 4) (s : BitVec 8) (a : BitVec 16) (d : Word32) :
    CommandWord.auxField (packWord u o s a d) = a := by
  apply BitVec.eq_of_getLsbD_eq
  intro k hk
  simp only [CommandWord.auxField, packWord, BitVec.getLsbD_append, BitVec.getLsbD_extractLsb']
  simp [hk,
    show ¬ 32 + k < 32 by omega,
    show 32 + k - 32 = k by omega]

@[simp] theorem dataField_packWord (u o : BitVec 4) (s : BitVec 8) (a : BitVec 16) (d : Word32) :
    CommandWord.dataField (packWord u o s a d) = d := by
  apply BitVec.eq_of_getLsbD_eq
  intro k hk
  simp only [CommandWord.dataField, packWord, BitVec.getLsbD_append, BitVec.getLsbD_extractLsb']
  simp [hk]

/-- The number in the `UNIT` field of a packed word. -/
theorem unitField_toNat_packWord (u o : BitVec 4) (s : BitVec 8) (a : BitVec 16) (d : Word32) :
    (CommandWord.unitField (packWord u o s a d)).toNat = u.toNat := by
  rw [unitField_packWord]

/-- A word is its five fields put together. -/
theorem packWord_fields (w : CommandWord) :
    packWord (CommandWord.unitField w) (CommandWord.opField w) (CommandWord.selField w) (CommandWord.auxField w)
      (CommandWord.dataField w) = w := by
  apply BitVec.eq_of_getLsbD_eq
  intro k hk
  simp only [packWord, CommandWord.unitField, CommandWord.opField, CommandWord.selField, CommandWord.auxField,
    CommandWord.dataField, BitVec.getLsbD_append, BitVec.getLsbD_extractLsb']
  by_cases h1 : k < 32
  · simp [h1]
  · by_cases h2 : k < 48
    · simp [h1, show k - 32 < 16 by omega, show 32 + (k - 32) = k by omega]
    · by_cases h3 : k < 56
      · simp [h1, show ¬ k - 32 < 16 by omega, show k - 32 - 16 < 8 by omega,
          show 48 + (k - 32 - 16) = k by omega]
      · by_cases h4 : k < 60
        · simp [h1, show ¬ k - 32 < 16 by omega, show ¬ k - 32 - 16 < 8 by omega,
            show k - 32 - 16 - 8 < 4 by omega, show 56 + (k - 32 - 16 - 8) = k by omega]
        · simp [h1, show ¬ k - 32 < 16 by omega, show ¬ k - 32 - 16 < 8 by omega,
            show ¬ k - 32 - 16 - 8 < 4 by omega, show k - 32 - 16 - 8 - 4 < 4 by omega,
            show 60 + (k - 32 - 16 - 8 - 4) = k by omega]

end Sys2Proof.Laws
end

