-- ==== Sys2Proof/Laws/Memory.lean ====
section
/-! SUPPORT. Memories of samples: reading after a write, and the canonical form that every operation keeps (R36). -/

namespace Sys2Proof.Laws

open Sys2Proof.Machine

/-- The canonical form in terms of its parts: no listed zero, and every later index is higher than the first. -/
theorem wf_cons {i : Nat} {v : Sample} {m : Memory} :
    Memory.wf ((i, v) :: m) = true ↔ v ≠ 0 ∧ (∀ c ∈ m, i < c.1) ∧ Memory.wf m = true := by
  induction m generalizing i v with
  | nil => simp [Memory.wf]
  | cons c m ih =>
    obtain ⟨j, u⟩ := c
    simp only [Memory.wf, Bool.and_eq_true, bne_iff_ne, decide_eq_true_eq, List.mem_cons, forall_eq_or_imp]
    constructor
    · rintro ⟨⟨hv, hij⟩, hm⟩
      exact ⟨hv, ⟨hij, fun c hc => hij.trans ((ih.1 hm).2.1 c hc)⟩, hm⟩
    · rintro ⟨hv, ⟨hij, -⟩, hm⟩
      exact ⟨⟨hv, hij⟩, hm⟩

@[simp] theorem wf_nil : Memory.wf [] = true := rfl

@[simp] theorem read_nil (a : Nat) : Memory.read [] a = 0 := rfl

/-- A cell below every listed index reads 0. -/
theorem read_of_below {m : Memory} {a : Nat} (h : ∀ c ∈ m, a < c.1) : Memory.read m a = 0 := by
  induction m with
  | nil => rfl
  | cons c m ih =>
    obtain ⟨i, v⟩ := c
    have hi : a < i := h (i, v) (by simp)
    rw [Memory.read, if_neg (by omega)]
    exact ih fun c hc => h c (by simp [hc])

/-- Where the cells of a written memory come from. -/
theorem mem_write {m : Memory} {a : Nat} {v : Sample} {c : Nat × Sample} (h : c ∈ Memory.write m a v) :
    c = (a, v) ∨ c ∈ m := by
  induction m with
  | nil => unfold Memory.write at h; split at h <;> simp_all
  | cons d m ih =>
    obtain ⟨i, u⟩ := d
    unfold Memory.write at h
    split at h
    · split at h <;> simp_all
    · split at h
      · split at h
        · exact .inr (List.mem_cons_of_mem _ h)
        · rcases List.mem_cons.1 h with h | h
          · exact .inl h
          · exact .inr (List.mem_cons_of_mem _ h)
      · rcases List.mem_cons.1 h with h | h
        · exact .inr (by simp [h])
        · rcases ih h with h | h
          · exact .inl h
          · exact .inr (List.mem_cons_of_mem _ h)

/-- A write keeps the canonical form. -/
theorem wf_write {m : Memory} (hm : Memory.wf m = true) (a : Nat) (v : Sample) :
    Memory.wf (Memory.write m a v) = true := by
  induction m with
  | nil => unfold Memory.write; split <;> simp_all [Memory.wf]
  | cons c m ih =>
    obtain ⟨i, u⟩ := c
    obtain ⟨hu, hlt, hm'⟩ := wf_cons.1 hm
    unfold Memory.write
    split
    · split
      · exact hm
      · refine wf_cons.2 ⟨by assumption, ?_, hm⟩
        rintro c hc
        rcases List.mem_cons.1 hc with rfl | hc
        · assumption
        · exact lt_trans ‹_› (hlt c hc)
    · split
      · rename_i h
        split
        · exact hm'
        · exact wf_cons.2 ⟨by assumption, h ▸ hlt, hm'⟩
      · refine wf_cons.2 ⟨hu, fun c hc => ?_, ih hm'⟩
        rcases mem_write hc with rfl | hc
        · simp; omega
        · exact hlt c hc

/-- Reading after a write gives the value written there, and what was there before everywhere else. -/
theorem read_write {m : Memory} (hm : Memory.wf m = true) (a b : Nat) (v : Sample) :
    Memory.read (Memory.write m a v) b = if b = a then v else Memory.read m b := by
  induction m with
  | nil =>
    unfold Memory.write
    split
    · simp_all [Memory.read]
    · simp only [Memory.read, eq_comm]
  | cons c m ih =>
    obtain ⟨i, u⟩ := c
    obtain ⟨-, hlt, hm'⟩ := wf_cons.1 hm
    unfold Memory.write
    split
    · rename_i hai
      split
      · split
        · subst_vars
          refine read_of_below fun c hc => ?_
          rcases List.mem_cons.1 hc with rfl | hc
          · exact hai
          · exact hai.trans (hlt c hc)
        · rfl
      · by_cases hb : b = a
        · simp [Memory.read, hb]
        · simp [Memory.read, hb, Ne.symm hb]
    · split
      · rename_i hai
        subst hai
        split
        · split
          · subst_vars
            exact read_of_below hlt
          · rename_i hb
            rw [Memory.read, if_neg (Ne.symm hb)]
        · by_cases hb : b = a
          · simp [Memory.read, hb]
          · simp [Memory.read, hb, Ne.symm hb]
      · by_cases hb : i = b
        · subst hb
          have : i ≠ a := by omega
          simp [Memory.read, this]
        · simp [Memory.read, hb, ih hm']

/-- A write inside `n` cells keeps every listed cell below `n`. -/
theorem below_write {m : Memory} {n a : Nat} (hm : Memory.Below m n) (ha : a < n) (v : Sample) :
    Memory.Below (Memory.write m a v) n := by
  intro c hc
  rcases mem_write hc with rfl | hc
  · exact ha
  · exact hm c hc

/-- Two memories in canonical form that read the same everywhere are equal. -/
theorem ext_of_read {m k : Memory} (hm : Memory.wf m = true) (hk : Memory.wf k = true)
    (h : ∀ a, Memory.read m a = Memory.read k a) : m = k := by
  induction m generalizing k with
  | nil =>
    cases k with
    | nil => rfl
    | cons c k =>
      obtain ⟨j, u⟩ := c
      have := h j
      simp [Memory.read] at this
      exact absurd this.symm (wf_cons.1 hk).1
  | cons c m ih =>
    obtain ⟨i, v⟩ := c
    obtain ⟨hv, hlt, hm'⟩ := wf_cons.1 hm
    cases k with
    | nil =>
      have := h i
      simp [Memory.read] at this
      exact absurd this hv
    | cons c k =>
      obtain ⟨j, u⟩ := c
      obtain ⟨hu, hlt', hk'⟩ := wf_cons.1 hk
      have hij : i = j := by
        rcases lt_trichotomy i j with hl | he | hg
        · have := h i
          rw [Memory.read, if_pos rfl, read_of_below] at this
          · exact absurd this hv
          · intro c hc
            rcases List.mem_cons.1 hc with rfl | hc
            · exact hl
            · exact hl.trans (hlt' c hc)
        · exact he
        · have := h j
          rw [eq_comm, Memory.read, if_pos rfl, read_of_below] at this
          · exact absurd this hu
          · intro c hc
            rcases List.mem_cons.1 hc with rfl | hc
            · exact hg
            · exact hg.trans (hlt c hc)
      subst hij
      have hvu : v = u := by simpa [Memory.read] using h i
      subst hvu
      rw [ih hm' hk']
      intro a
      by_cases ha : i = a
      · subst ha
        rw [read_of_below hlt, read_of_below hlt']
      · simpa [Memory.read, ha] using h a

end Sys2Proof.Laws
end

