-- ==== Sys2Proof/Laws/State.lean ====
section
/-! SUPPORT. The fields of State after each named update. -/

namespace Sys2Proof.Laws

open Sys2Proof.Machine

@[simp] theorem respond_cfg (s : State) (r : ResponseWord) : (s.respond r).cfg = s.cfg := rfl
@[simp] theorem respond_pending (s : State) (r : ResponseWord) : (s.respond r).pending = s.pending := rfl
@[simp] theorem respond_responses (s : State) (r : ResponseWord) : (s.respond r).responses = r :: s.responses := rfl
@[simp] theorem respond_status (s : State) (r : ResponseWord) : (s.respond r).status = s.status := rfl
@[simp] theorem respond_shb (s : State) (r : ResponseWord) : (s.respond r).shb = s.shb := rfl
@[simp] theorem respond_det (s : State) (r : ResponseWord) : (s.respond r).det = s.det := rfl
@[simp] theorem respond_oct (s : State) (r : ResponseWord) : (s.respond r).oct = s.oct := rfl
@[simp] theorem respond_psh (s : State) (r : ResponseWord) : (s.respond r).psh = s.psh := rfl
@[simp] theorem respond_fbe (s : State) (r : ResponseWord) : (s.respond r).fbe = s.fbe := rfl
@[simp] theorem respond_ffe (s : State) (r : ResponseWord) : (s.respond r).ffe = s.ffe := rfl
@[simp] theorem respond_rev (s : State) (r : ResponseWord) : (s.respond r).rev = s.rev := rfl
@[simp] theorem respond_grain (s : State) (r : ResponseWord) (g : GrainId) : (s.respond r).grain g = s.grain g := by
  cases g <;> rfl

@[simp] theorem setGrain_cfg (s : State) (g : GrainId) (u : Grain) : (s.setGrain g u).cfg = s.cfg := by cases g <;> rfl
@[simp] theorem setGrain_pending (s : State) (g : GrainId) (u : Grain) : (s.setGrain g u).pending = s.pending := by cases g <;> rfl
@[simp] theorem setGrain_responses (s : State) (g : GrainId) (u : Grain) : (s.setGrain g u).responses = s.responses := by cases g <;> rfl
@[simp] theorem setGrain_status (s : State) (g : GrainId) (u : Grain) : (s.setGrain g u).status = s.status := by cases g <;> rfl
@[simp] theorem setGrain_shb (s : State) (g : GrainId) (u : Grain) : (s.setGrain g u).shb = s.shb := by cases g <;> rfl
@[simp] theorem setGrain_fbe (s : State) (g : GrainId) (u : Grain) : (s.setGrain g u).fbe = s.fbe := by cases g <;> rfl
@[simp] theorem setGrain_ffe (s : State) (g : GrainId) (u : Grain) : (s.setGrain g u).ffe = s.ffe := by cases g <;> rfl
@[simp] theorem setGrain_rev (s : State) (g : GrainId) (u : Grain) : (s.setGrain g u).rev = s.rev := by cases g <;> rfl
@[simp] theorem setGrain_grain_same (s : State) (g : GrainId) (u : Grain) : (s.setGrain g u).grain g = u := by
  cases g <;> rfl

theorem setGrain_grain_other (s : State) (g h : GrainId) (u : Grain) (hne : h ≠ g) :
    (s.setGrain g u).grain h = s.grain h := by
  cases g <;> cases h <;> first | rfl | exact absurd rfl hne

@[simp] theorem setGrain_setGrain (s : State) (g : GrainId) (u v : Grain) :
    (s.setGrain g u).setGrain g v = s.setGrain g v := by cases g <;> rfl

@[simp] theorem setGrain_grain_self (s : State) (g : GrainId) : s.setGrain g (s.grain g) = s := by cases g <;> rfl

@[simp] theorem grain_det (s : State) : s.grain .det = s.det := rfl
@[simp] theorem grain_oct (s : State) : s.grain .oct = s.oct := rfl
@[simp] theorem grain_psh (s : State) : s.grain .psh = s.psh := rfl

@[simp] theorem hardReset_cfg (s : State) : s.hardReset.cfg = s.cfg := rfl
@[simp] theorem hardReset_pending (s : State) : s.hardReset.pending = s.pending := rfl
@[simp] theorem hardReset_responses (s : State) : s.hardReset.responses = s.responses := rfl
@[simp] theorem hardReset_status (s : State) : s.hardReset.status = 0 := rfl
@[simp] theorem hardReset_shb (s : State) : s.hardReset.shb = Shb.reset := rfl
@[simp] theorem hardReset_det (s : State) : s.hardReset.det = Grain.reset := rfl
@[simp] theorem hardReset_oct (s : State) : s.hardReset.oct = Grain.reset := rfl
@[simp] theorem hardReset_psh (s : State) : s.hardReset.psh = Grain.reset := rfl
@[simp] theorem hardReset_fbe (s : State) : s.hardReset.fbe = Fbe.reset := rfl
@[simp] theorem hardReset_ffe (s : State) : s.hardReset.ffe = Ffe.reset := rfl
@[simp] theorem hardReset_rev (s : State) : s.hardReset.rev = Rev.reset := rfl

@[simp] theorem presentCommand_cfg (s : State) (w : CommandWord) : (s.presentCommand w).cfg = s.cfg := rfl
@[simp] theorem presentCommand_pending (s : State) (w : CommandWord) : (s.presentCommand w).pending = .command w :: s.pending := rfl
@[simp] theorem presentCommand_responses (s : State) (w : CommandWord) : (s.presentCommand w).responses = s.responses := rfl
@[simp] theorem presentCommand_status (s : State) (w : CommandWord) : (s.presentCommand w).status = s.status := rfl
@[simp] theorem presentCommand_shb (s : State) (w : CommandWord) : (s.presentCommand w).shb = s.shb := rfl
@[simp] theorem presentCommand_det (s : State) (w : CommandWord) : (s.presentCommand w).det = s.det := rfl
@[simp] theorem presentCommand_oct (s : State) (w : CommandWord) : (s.presentCommand w).oct = s.oct := rfl
@[simp] theorem presentCommand_psh (s : State) (w : CommandWord) : (s.presentCommand w).psh = s.psh := rfl
@[simp] theorem presentCommand_fbe (s : State) (w : CommandWord) : (s.presentCommand w).fbe = s.fbe := rfl
@[simp] theorem presentCommand_ffe (s : State) (w : CommandWord) : (s.presentCommand w).ffe = s.ffe := rfl
@[simp] theorem presentCommand_rev (s : State) (w : CommandWord) : (s.presentCommand w).rev = s.rev := rfl

@[simp] theorem grainCycleLoad_inited (u : Grain) : (grainCycleLoad u).inited = u.inited := rfl
@[simp] theorem grainCycleLoad_enable (u : Grain) : (grainCycleLoad u).enable = u.enable := rfl
@[simp] theorem grainCycleLoad_fs (u : Grain) : (grainCycleLoad u).fs = u.fs := rfl
@[simp] theorem grainCycleLoad_shift (u : Grain) : (grainCycleLoad u).shift = u.shift := rfl
@[simp] theorem grainCycleLoad_mix (u : Grain) : (grainCycleLoad u).mix = u.mix := rfl
@[simp] theorem grainCycleLoad_gain (u : Grain) : (grainCycleLoad u).gain = u.gain := rfl
@[simp] theorem grainCycleLoad_prq (u : Grain) : (grainCycleLoad u).prq = u.prq := rfl
@[simp] theorem grainCycleLoad_dy (u : Grain) : (grainCycleLoad u).dy = u.dy := rfl
@[simp] theorem grainCycleLoad_k1init (u : Grain) : (grainCycleLoad u).k1init = u.k1init := rfl
@[simp] theorem grainCycleLoad_k2init (u : Grain) : (grainCycleLoad u).k2init = u.k2init := rfl
@[simp] theorem grainCycleLoad_d1 (u : Grain) : (grainCycleLoad u).d1 = u.d1 := rfl
@[simp] theorem grainCycleLoad_d2 (u : Grain) : (grainCycleLoad u).d2 = u.d2 := rfl
@[simp] theorem grainCycleLoad_d3 (u : Grain) : (grainCycleLoad u).d3 = u.d3 := rfl
@[simp] theorem grainCycleLoad_dryw (u : Grain) : (grainCycleLoad u).dryw = u.dryw := rfl
@[simp] theorem grainCycleLoad_wetw (u : Grain) : (grainCycleLoad u).wetw = u.wetw := rfl
@[simp] theorem grainCycleLoad_i (u : Grain) : (grainCycleLoad u).i = 0 := rfl
@[simp] theorem grainCycleLoad_k1 (u : Grain) : (grainCycleLoad u).k1 = u.k1init := rfl
@[simp] theorem grainCycleLoad_k2 (u : Grain) : (grainCycleLoad u).k2 = u.k2init := rfl
@[simp] theorem grainCycleLoad_d (u : Grain) : (grainCycleLoad u).d = u.d1 := rfl
@[simp] theorem grainCycleLoad_ad2 (u : Grain) : (grainCycleLoad u).ad2 = u.d2 := rfl
@[simp] theorem grainCycleLoad_ad3 (u : Grain) : (grainCycleLoad u).ad3 = u.d3 := rfl

@[simp] theorem grainRecompute_inited (gc : GrainConfig) (u : Grain) : (grainRecompute gc u).inited = u.inited := rfl
@[simp] theorem grainRecompute_enable (gc : GrainConfig) (u : Grain) : (grainRecompute gc u).enable = u.enable := rfl
@[simp] theorem grainRecompute_fs (gc : GrainConfig) (u : Grain) : (grainRecompute gc u).fs = u.fs := rfl
@[simp] theorem grainRecompute_shift (gc : GrainConfig) (u : Grain) : (grainRecompute gc u).shift = u.shift := rfl
@[simp] theorem grainRecompute_mix (gc : GrainConfig) (u : Grain) : (grainRecompute gc u).mix = u.mix := rfl
@[simp] theorem grainRecompute_gain (gc : GrainConfig) (u : Grain) : (grainRecompute gc u).gain = u.gain := rfl
@[simp] theorem grainRecompute_i (gc : GrainConfig) (u : Grain) : (grainRecompute gc u).i = u.i := rfl
@[simp] theorem grainRecompute_k1 (gc : GrainConfig) (u : Grain) : (grainRecompute gc u).k1 = u.k1 := rfl
@[simp] theorem grainRecompute_k2 (gc : GrainConfig) (u : Grain) : (grainRecompute gc u).k2 = u.k2 := rfl
@[simp] theorem grainRecompute_d (gc : GrainConfig) (u : Grain) : (grainRecompute gc u).d = u.d := rfl
@[simp] theorem grainRecompute_ad2 (gc : GrainConfig) (u : Grain) : (grainRecompute gc u).ad2 = u.ad2 := rfl
@[simp] theorem grainRecompute_ad3 (gc : GrainConfig) (u : Grain) : (grainRecompute gc u).ad3 = u.ad3 := rfl

@[simp] theorem fbeRecompute_inited (cfg : Config) (u : Fbe) : (fbeRecompute cfg u).inited = u.inited := rfl
@[simp] theorem fbeRecompute_enable (cfg : Config) (u : Fbe) : (fbeRecompute cfg u).enable = u.enable := rfl
@[simp] theorem fbeRecompute_fs (cfg : Config) (u : Fbe) : (fbeRecompute cfg u).fs = u.fs := rfl
@[simp] theorem fbeRecompute_ms (cfg : Config) (u : Fbe) : (fbeRecompute cfg u).ms = u.ms := rfl
@[simp] theorem fbeRecompute_off (cfg : Config) (u : Fbe) : (fbeRecompute cfg u).off = u.off := rfl
@[simp] theorem fbeRecompute_decay (cfg : Config) (u : Fbe) : (fbeRecompute cfg u).decay = u.decay := rfl
@[simp] theorem fbeRecompute_gain (cfg : Config) (u : Fbe) : (fbeRecompute cfg u).gain = u.gain := rfl
@[simp] theorem ffeRecompute_inited (u : Ffe) : (ffeRecompute u).inited = u.inited := rfl
@[simp] theorem ffeRecompute_enable (u : Ffe) : (ffeRecompute u).enable = u.enable := rfl
@[simp] theorem ffeRecompute_fs (u : Ffe) : (ffeRecompute u).fs = u.fs := rfl
@[simp] theorem ffeRecompute_ms (u : Ffe) : (ffeRecompute u).ms = u.ms := rfl
@[simp] theorem ffeRecompute_off (u : Ffe) : (ffeRecompute u).off = u.off := rfl
@[simp] theorem ffeRecompute_repeats (u : Ffe) : (ffeRecompute u).repeats = u.repeats := rfl
@[simp] theorem ffeRecompute_decay (u : Ffe) : (ffeRecompute u).decay = u.decay := rfl
@[simp] theorem ffeRecompute_gain (u : Ffe) : (ffeRecompute u).gain = u.gain := rfl
@[simp] theorem revRecompute_inited (cfg : Config) (u : Rev) : (revRecompute cfg u).inited = u.inited := rfl
@[simp] theorem revRecompute_enable (cfg : Config) (u : Rev) : (revRecompute cfg u).enable = u.enable := rfl
@[simp] theorem revRecompute_fs (cfg : Config) (u : Rev) : (revRecompute cfg u).fs = u.fs := rfl
@[simp] theorem revRecompute_time (cfg : Config) (u : Rev) : (revRecompute cfg u).time = u.time := rfl
@[simp] theorem revRecompute_gain (cfg : Config) (u : Rev) : (revRecompute cfg u).gain = u.gain := rfl
@[simp] theorem revRecompute_rcur (cfg : Config) (u : Rev) : (revRecompute cfg u).rcur = u.rcur := rfl
@[simp] theorem revRecompute_z (cfg : Config) (u : Rev) : (revRecompute cfg u).z = u.z := rfl
@[simp] theorem revRecompute_tcz (cfg : Config) (u : Rev) : (revRecompute cfg u).tcz = u.tcz := rfl
@[simp] theorem revRecompute_rb (cfg : Config) (u : Rev) : (revRecompute cfg u).rb = u.rb := rfl
@[simp] theorem revClear_inited (u : Rev) : (revClear u).inited = u.inited := rfl
@[simp] theorem revClear_enable (u : Rev) : (revClear u).enable = u.enable := rfl
@[simp] theorem revClear_fs (u : Rev) : (revClear u).fs = u.fs := rfl
@[simp] theorem revClear_time (u : Rev) : (revClear u).time = u.time := rfl
@[simp] theorem revClear_gain (u : Rev) : (revClear u).gain = u.gain := rfl
@[simp] theorem revClear_gdc (u : Rev) : (revClear u).gdc = u.gdc := rfl
@[simp] theorem revClear_gny (u : Rev) : (revClear u).gny = u.gny := rfl
@[simp] theorem revClear_gc (u : Rev) : (revClear u).gc = u.gc := rfl
@[simp] theorem revClear_gp (u : Rev) : (revClear u).gp = u.gp := rfl
@[simp] theorem revClear_rcur (u : Rev) : (revClear u).rcur = u.rcur := rfl
@[simp] theorem revTick_inited (cfg : Config) (u : Rev) (x : Int) : (revTick cfg u x).inited = u.inited := rfl
@[simp] theorem revTick_enable (cfg : Config) (u : Rev) (x : Int) : (revTick cfg u x).enable = u.enable := rfl
@[simp] theorem revTick_fs (cfg : Config) (u : Rev) (x : Int) : (revTick cfg u x).fs = u.fs := rfl
@[simp] theorem revTick_time (cfg : Config) (u : Rev) (x : Int) : (revTick cfg u x).time = u.time := rfl
@[simp] theorem revTick_gain (cfg : Config) (u : Rev) (x : Int) : (revTick cfg u x).gain = u.gain := rfl
@[simp] theorem revTick_gdc (cfg : Config) (u : Rev) (x : Int) : (revTick cfg u x).gdc = u.gdc := rfl
@[simp] theorem revTick_gny (cfg : Config) (u : Rev) (x : Int) : (revTick cfg u x).gny = u.gny := rfl
@[simp] theorem revTick_gc (cfg : Config) (u : Rev) (x : Int) : (revTick cfg u x).gc = u.gc := rfl
@[simp] theorem revTick_gp (cfg : Config) (u : Rev) (x : Int) : (revTick cfg u x).gp = u.gp := rfl

/-- One tick of a grain unit writes its dynamic registers only (R25, R90). -/
theorem grainStep_frame (gc : GrainConfig) (u : Grain) :
    ∃ k1 k2 d, grainStep gc u = { u with k1 := k1, k2 := k2, d := d, i := u.i + 1 } := by
  unfold grainStep; split <;> exact ⟨_, _, _, rfl⟩

@[simp] theorem grainAdvance_inited (gc : GrainConfig) (u : Grain) : (grainAdvance gc u).inited = u.inited := by
  obtain ⟨_, _, _, h⟩ := grainStep_frame gc u
  simp only [grainAdvance, h]; split <;> rfl
@[simp] theorem grainAdvance_enable (gc : GrainConfig) (u : Grain) : (grainAdvance gc u).enable = u.enable := by
  obtain ⟨_, _, _, h⟩ := grainStep_frame gc u
  simp only [grainAdvance, h]; split <;> rfl
@[simp] theorem grainAdvance_fs (gc : GrainConfig) (u : Grain) : (grainAdvance gc u).fs = u.fs := by
  obtain ⟨_, _, _, h⟩ := grainStep_frame gc u
  simp only [grainAdvance, h]; split <;> rfl
@[simp] theorem grainAdvance_shift (gc : GrainConfig) (u : Grain) : (grainAdvance gc u).shift = u.shift := by
  obtain ⟨_, _, _, h⟩ := grainStep_frame gc u
  simp only [grainAdvance, h]; split <;> rfl
@[simp] theorem grainAdvance_mix (gc : GrainConfig) (u : Grain) : (grainAdvance gc u).mix = u.mix := by
  obtain ⟨_, _, _, h⟩ := grainStep_frame gc u
  simp only [grainAdvance, h]; split <;> rfl
@[simp] theorem grainAdvance_gain (gc : GrainConfig) (u : Grain) : (grainAdvance gc u).gain = u.gain := by
  obtain ⟨_, _, _, h⟩ := grainStep_frame gc u
  simp only [grainAdvance, h]; split <;> rfl
@[simp] theorem grainAdvance_prq (gc : GrainConfig) (u : Grain) : (grainAdvance gc u).prq = u.prq := by
  obtain ⟨_, _, _, h⟩ := grainStep_frame gc u
  simp only [grainAdvance, h]; split <;> rfl
@[simp] theorem grainAdvance_dy (gc : GrainConfig) (u : Grain) : (grainAdvance gc u).dy = u.dy := by
  obtain ⟨_, _, _, h⟩ := grainStep_frame gc u
  simp only [grainAdvance, h]; split <;> rfl
@[simp] theorem grainAdvance_k1init (gc : GrainConfig) (u : Grain) : (grainAdvance gc u).k1init = u.k1init := by
  obtain ⟨_, _, _, h⟩ := grainStep_frame gc u
  simp only [grainAdvance, h]; split <;> rfl
@[simp] theorem grainAdvance_k2init (gc : GrainConfig) (u : Grain) : (grainAdvance gc u).k2init = u.k2init := by
  obtain ⟨_, _, _, h⟩ := grainStep_frame gc u
  simp only [grainAdvance, h]; split <;> rfl
@[simp] theorem grainAdvance_d1 (gc : GrainConfig) (u : Grain) : (grainAdvance gc u).d1 = u.d1 := by
  obtain ⟨_, _, _, h⟩ := grainStep_frame gc u
  simp only [grainAdvance, h]; split <;> rfl
@[simp] theorem grainAdvance_d2 (gc : GrainConfig) (u : Grain) : (grainAdvance gc u).d2 = u.d2 := by
  obtain ⟨_, _, _, h⟩ := grainStep_frame gc u
  simp only [grainAdvance, h]; split <;> rfl
@[simp] theorem grainAdvance_d3 (gc : GrainConfig) (u : Grain) : (grainAdvance gc u).d3 = u.d3 := by
  obtain ⟨_, _, _, h⟩ := grainStep_frame gc u
  simp only [grainAdvance, h]; split <;> rfl
@[simp] theorem grainAdvance_dryw (gc : GrainConfig) (u : Grain) : (grainAdvance gc u).dryw = u.dryw := by
  obtain ⟨_, _, _, h⟩ := grainStep_frame gc u
  simp only [grainAdvance, h]; split <;> rfl
@[simp] theorem grainAdvance_wetw (gc : GrainConfig) (u : Grain) : (grainAdvance gc u).wetw = u.wetw := by
  obtain ⟨_, _, _, h⟩ := grainStep_frame gc u
  simp only [grainAdvance, h]; split <;> rfl

end Sys2Proof.Laws
end

