-- ==== Sys2Proof/Laws/Ops.lean ====
section
/-! SUPPORT. For each shared operation, what it answers and everything it can do when it gives a next state. -/

namespace Sys2Proof.Laws

open Sys2Proof.Machine

/-- The state after a command that ends without fault (R50). -/
theorem answer_next {v : Word32} {s t : State} :
    answer v s = .next t ↔ t = s.respond (responseWord 0 v) := by
  simp [answer, eq_comm]

/-- The state after a fault is taken (R141). -/
theorem takeFault_next {c : FaultCode} {s t : State} :
    takeFault c s = .next t ↔
      t = ({ s with status := setStatusBit (codeNumber c) s.status }).respond (faultWord c) := by
  simp [takeFault, eq_comm]

@[simp] theorem whenInited_true (s : State) (k : Result) : whenInited true s k = k := rfl
@[simp] theorem whenInited_false (s : State) (k : Result) : whenInited false s k = takeFault .eNoInit s := rfl
@[simp] theorem whenOperand_true (s : State) (k : Result) : whenOperand true s k = k := rfl
@[simp] theorem whenOperand_false (s : State) (k : Result) : whenOperand false s k = takeFault .eOperand s := rfl

/-- Step 5 of R142 lets a command through or takes E_NOINIT. -/
theorem whenInited_next {b : Bool} {s t : State} {k : Result} (h : whenInited b s k = .next t) :
    (b = true ∧ k = .next t) ∨ (b = false ∧ takeFault .eNoInit s = .next t) := by
  cases b
  · exact .inr ⟨rfl, h⟩
  · exact .inl ⟨rfl, h⟩

/-- Step 6 of R142 lets a command through or takes E_OPERAND. -/
theorem whenOperand_next {b : Bool} {s t : State} {k : Result} (h : whenOperand b s k = .next t) :
    (b = true ∧ k = .next t) ∨ (b = false ∧ takeFault .eOperand s = .next t) := by
  cases b
  · exact .inr ⟨rfl, h⟩
  · exact .inl ⟨rfl, h⟩

/-- A tap inside the ring. -/
theorem withTap_of_lt {s : State} {c o : Nat} (hc : c < s.cfg.n) (ho : o < s.cfg.n) (k : Int → Result) :
    withTap s c o k = k (s.shb.hb.read (ring c o s.cfg.n)).toInt := if_pos ⟨hc, ho⟩

/-- A tap gives a next state only inside the ring. -/
theorem withTap_next {s t : State} {c o : Nat} {k : Int → Result} (h : withTap s c o k = .next t) :
    c < s.cfg.n ∧ o < s.cfg.n ∧ k (s.shb.hb.read (ring c o s.cfg.n)).toInt = .next t := by
  unfold withTap at h
  split at h
  · exact ⟨‹_ ∧ _›.1, ‹_ ∧ _›.2, h⟩
  · cases h

theorem withDivisor_of_ne {d : Nat} (hd : d ≠ 0) (k : Result) : withDivisor d k = k := if_neg hd

/-- A division gives a next state only for a divisor that is not 0. -/
theorem withDivisor_next {d : Nat} {t : State} {k : Result} (h : withDivisor d k = .next t) :
    d ≠ 0 ∧ k = .next t := by
  unfold withDivisor at h
  split at h
  · cases h
  · exact ⟨‹_›, h⟩

/-- GET and PEEK: the register's value, or E_SEL, or E_NOINIT. -/
theorem readRegister_next {b : Bool} {regs : List Word32} {sel : BitVec 8} {s t : State}
    (h : readRegister b regs sel s = .next t) :
    (∃ v, regs[sel.toNat]? = some v ∧ b = true ∧ answer v s = .next t) ∨
    (∃ v, regs[sel.toNat]? = some v ∧ b = false ∧ takeFault .eNoInit s = .next t) ∨
    (regs[sel.toNat]? = none ∧ takeFault .eSel s = .next t) := by
  unfold readRegister at h
  split at h
  · rcases whenInited_next h with ⟨hb, h⟩ | ⟨hb, h⟩
    · exact .inl ⟨_, ‹_›, hb, h⟩
    · exact .inr (.inl ⟨_, ‹_›, hb, h⟩)
  · exact .inr (.inr ⟨‹_›, h⟩)

/-- INIT and SET of REV: the unit is recomputed and cleared (R123, R124). -/
theorem revSet_next {u : Rev} {f : Rev → Rev} {s t : State} (h : revSet u f s = .next t) :
    revDivisorOk s.cfg u = true ∧
      t = ({ s with rev := f (revClear (revRecompute s.cfg u)) }).respond (responseWord 0 0) := by
  unfold revSet at h
  split at h
  · exact ⟨‹_›, answer_next.1 h⟩
  · cases h

/-- The end of a grain PROC: the response, STATUS, and the unit one tick later (R90, R92). -/
theorem grainFinish_next {g : GrainId} {x gr : Int} {s t : State} (h : grainFinish g x gr s = .next t) :
    t = (({ s with status := noteNarrowing (grainMix (s.grain g) x gr) (wrap16 (grainMix (s.grain g) x gr)) s.status
            }).setGrain g (grainAdvance (s.cfg.grain g) (s.grain g))).respond
          (responseWord 0 (signedValue (wrap16 (grainMix (s.grain g) x gr)))) := answer_next.1 h

/-- One step of the feedforward loop inside the ring (R119). -/
theorem ffeTaps_succ {s : State} {n idx : Nat} (hi : idx < s.cfg.n) (ho : s.ffe.off < s.cfg.n) (count : Nat) (acc : Int)
    (k : Int → Result) :
    ffeTaps s (count + 1) n idx acc k =
      ffeTaps s count (n + 1) (ring idx s.ffe.off s.cfg.n)
        (acc + s.ffe.w.get n * (s.shb.hb.read (ring idx s.ffe.off s.cfg.n)).toInt) k := by
  simp [ffeTaps, withTap_of_lt hi ho]

/-- The feedforward loop gives a next state only through its continuation. -/
theorem ffeTaps_next {s t : State} {count n idx : Nat} {acc : Int} {k : Int → Result}
    (h : ffeTaps s count n idx acc k = .next t) : ∃ sum, k sum = .next t := by
  induction count generalizing n idx acc with
  | zero => exact ⟨acc, h⟩
  | succ count ih => exact ih (withTap_next h).2.2

/-- A step accepts the oldest input: nothing, hardware reset, an illegal word, or a command it executes. -/
theorem step_next {s t : State} (h : step s = .next t) :
    (s.pending = [] ∧ t = s) ∨
    (∃ rest, s.pending = .hardReset :: rest ∧ t = State.hardReset { s with pending := rest }) ∨
    (∃ w rest c, s.pending = .command w :: rest ∧ s.cfg.Legal ∧ decode w = .error c ∧
      takeFault c { s with pending := rest } = .next t) ∨
    (∃ w rest i, s.pending = .command w :: rest ∧ s.cfg.Legal ∧ decode w = .ok i ∧
      exec i { s with pending := rest } = .next t) := by
  unfold step at h
  split at h
  · cases h; exact .inl ⟨‹_›, rfl⟩
  · cases h; exact .inr (.inl ⟨_, ‹_›, rfl⟩)
  · split at h
    · split at h
      · exact .inr (.inr (.inl ⟨_, _, _, ‹_›, ‹_›, ‹_›, h⟩))
      · exact .inr (.inr (.inr ⟨_, _, _, ‹_›, ‹_›, ‹_›, h⟩))
    · cases h

end Sys2Proof.Laws
end

