-- ==== Sys2Proof/Laws/PerInstr.lean ====
section
/-! SUPPORT. For each command: the `UNIT` field of its encoded word is the number of its unit (R52, R56). -/

namespace Sys2Proof.Laws.EncodesRow

/-- The `UNIT` field of the encoded word is the number of the command's unit. -/
def Statement (i : Instr) : Prop := (CommandWord.unitField (encode i)).toNat = unitNumber i.unit

theorem glbNop : Statement (.glbNop) := unitField_toNat_packWord _ _ _ _ _
theorem glbPeek : ∀ sel, Statement (.glbPeek sel) := fun _ => unitField_toNat_packWord _ _ _ _ _
theorem shbInit : Statement (.shbInit) := unitField_toNat_packWord _ _ _ _ _
theorem shbPush : ∀ x, Statement (.shbPush x) := fun _ => unitField_toNat_packWord _ _ _ _ _
theorem shbRead : ∀ c o, Statement (.shbRead c o) := fun _ _ => unitField_toNat_packWord _ _ _ _ _
theorem shbIndex : ∀ c o, Statement (.shbIndex c o) := fun _ _ => unitField_toNat_packWord _ _ _ _ _
theorem shbPeek : ∀ sel, Statement (.shbPeek sel) := fun _ => unitField_toNat_packWord _ _ _ _ _
theorem detInit : ∀ fs, Statement (.detInit fs) := fun _ => unitField_toNat_packWord _ _ _ _ _
theorem detSetShift : ∀ v, Statement (.detSetShift v) := fun _ => unitField_toNat_packWord _ _ _ _ _
theorem detSetMix : ∀ v, Statement (.detSetMix v) := fun _ => unitField_toNat_packWord _ _ _ _ _
theorem detSetGain : ∀ v, Statement (.detSetGain v) := fun _ => unitField_toNat_packWord _ _ _ _ _
theorem detGet : ∀ sel, Statement (.detGet sel) := fun _ => unitField_toNat_packWord _ _ _ _ _
theorem detSwitch : ∀ on, Statement (.detSwitch on) := fun _ => unitField_toNat_packWord _ _ _ _ _
theorem detProc : ∀ c x, Statement (.detProc c x) := fun _ _ => unitField_toNat_packWord _ _ _ _ _
theorem detPeek : ∀ sel, Statement (.detPeek sel) := fun _ => unitField_toNat_packWord _ _ _ _ _
theorem octInit : ∀ fs, Statement (.octInit fs) := fun _ => unitField_toNat_packWord _ _ _ _ _
theorem octSetShift : ∀ v, Statement (.octSetShift v) := fun _ => unitField_toNat_packWord _ _ _ _ _
theorem octSetMix : ∀ v, Statement (.octSetMix v) := fun _ => unitField_toNat_packWord _ _ _ _ _
theorem octSetGain : ∀ v, Statement (.octSetGain v) := fun _ => unitField_toNat_packWord _ _ _ _ _
theorem octGet : ∀ sel, Statement (.octGet sel) := fun _ => unitField_toNat_packWord _ _ _ _ _
theorem octSwitch : ∀ on, Statement (.octSwitch on) := fun _ => unitField_toNat_packWord _ _ _ _ _
theorem octProc : ∀ c x, Statement (.octProc c x) := fun _ _ => unitField_toNat_packWord _ _ _ _ _
theorem octPeek : ∀ sel, Statement (.octPeek sel) := fun _ => unitField_toNat_packWord _ _ _ _ _
theorem pshInit : ∀ fs, Statement (.pshInit fs) := fun _ => unitField_toNat_packWord _ _ _ _ _
theorem pshSetShift : ∀ v, Statement (.pshSetShift v) := fun _ => unitField_toNat_packWord _ _ _ _ _
theorem pshSetMix : ∀ v, Statement (.pshSetMix v) := fun _ => unitField_toNat_packWord _ _ _ _ _
theorem pshSetGain : ∀ v, Statement (.pshSetGain v) := fun _ => unitField_toNat_packWord _ _ _ _ _
theorem pshGet : ∀ sel, Statement (.pshGet sel) := fun _ => unitField_toNat_packWord _ _ _ _ _
theorem pshSwitch : ∀ on, Statement (.pshSwitch on) := fun _ => unitField_toNat_packWord _ _ _ _ _
theorem pshProc : ∀ c x, Statement (.pshProc c x) := fun _ _ => unitField_toNat_packWord _ _ _ _ _
theorem pshPeek : ∀ sel, Statement (.pshPeek sel) := fun _ => unitField_toNat_packWord _ _ _ _ _
theorem fbeInit : ∀ fs, Statement (.fbeInit fs) := fun _ => unitField_toNat_packWord _ _ _ _ _
theorem fbeSetDelayMs : ∀ v, Statement (.fbeSetDelayMs v) := fun _ => unitField_toNat_packWord _ _ _ _ _
theorem fbeSetDecay : ∀ v, Statement (.fbeSetDecay v) := fun _ => unitField_toNat_packWord _ _ _ _ _
theorem fbeSetGain : ∀ v, Statement (.fbeSetGain v) := fun _ => unitField_toNat_packWord _ _ _ _ _
theorem fbeSetDelaySmp : ∀ v, Statement (.fbeSetDelaySmp v) := fun _ => unitField_toNat_packWord _ _ _ _ _
theorem fbeGet : ∀ sel, Statement (.fbeGet sel) := fun _ => unitField_toNat_packWord _ _ _ _ _
theorem fbeSwitch : ∀ on, Statement (.fbeSwitch on) := fun _ => unitField_toNat_packWord _ _ _ _ _
theorem fbeProc : ∀ c x, Statement (.fbeProc c x) := fun _ _ => unitField_toNat_packWord _ _ _ _ _
theorem fbePeek : ∀ sel, Statement (.fbePeek sel) := fun _ => unitField_toNat_packWord _ _ _ _ _
theorem ffeInit : ∀ fs, Statement (.ffeInit fs) := fun _ => unitField_toNat_packWord _ _ _ _ _
theorem ffeSetDelayMs : ∀ v, Statement (.ffeSetDelayMs v) := fun _ => unitField_toNat_packWord _ _ _ _ _
theorem ffeSetRepeats : ∀ v, Statement (.ffeSetRepeats v) := fun _ => unitField_toNat_packWord _ _ _ _ _
theorem ffeSetDecay : ∀ v, Statement (.ffeSetDecay v) := fun _ => unitField_toNat_packWord _ _ _ _ _
theorem ffeSetGain : ∀ v, Statement (.ffeSetGain v) := fun _ => unitField_toNat_packWord _ _ _ _ _
theorem ffeSetDelaySmp : ∀ v, Statement (.ffeSetDelaySmp v) := fun _ => unitField_toNat_packWord _ _ _ _ _
theorem ffeGet : ∀ sel, Statement (.ffeGet sel) := fun _ => unitField_toNat_packWord _ _ _ _ _
theorem ffeSwitch : ∀ on, Statement (.ffeSwitch on) := fun _ => unitField_toNat_packWord _ _ _ _ _
theorem ffeProc : ∀ c x, Statement (.ffeProc c x) := fun _ _ => unitField_toNat_packWord _ _ _ _ _
theorem ffePeek : ∀ sel, Statement (.ffePeek sel) := fun _ => unitField_toNat_packWord _ _ _ _ _
theorem revInit : ∀ fs, Statement (.revInit fs) := fun _ => unitField_toNat_packWord _ _ _ _ _
theorem revSetTime : ∀ v, Statement (.revSetTime v) := fun _ => unitField_toNat_packWord _ _ _ _ _
theorem revSetGain : ∀ v, Statement (.revSetGain v) := fun _ => unitField_toNat_packWord _ _ _ _ _
theorem revGet : ∀ sel, Statement (.revGet sel) := fun _ => unitField_toNat_packWord _ _ _ _ _
theorem revSwitch : ∀ on, Statement (.revSwitch on) := fun _ => unitField_toNat_packWord _ _ _ _ _
theorem revProc : ∀ x, Statement (.revProc x) := fun _ => unitField_toNat_packWord _ _ _ _ _
theorem revPeek : ∀ sel, Statement (.revPeek sel) := fun _ => unitField_toNat_packWord _ _ _ _ _

end Sys2Proof.Laws.EncodesRow
end

