-- ==== Sys2Proof/Machine/Asm.lean ====
section
/-! DEFINITION. The assembler spelling of commands and responses (R62). -/

namespace Sys2Proof

/-- The mnemonic of a command (R56). -/
def Instr.mnemonic : Instr → String
  | .glbNop => "GLB.NOP"
  | .glbPeek _ => "GLB.PEEK"
  | .shbInit => "SHB.INIT"
  | .shbPush _ => "SHB.PUSH"
  | .shbRead _ _ => "SHB.READ"
  | .shbIndex _ _ => "SHB.INDEX"
  | .shbPeek _ => "SHB.PEEK"
  | .detInit _ => "DET.INIT"
  | .detSetShift _ => "DET.SET.SHIFT"
  | .detSetMix _ => "DET.SET.MIX"
  | .detSetGain _ => "DET.SET.GAIN"
  | .detGet _ => "DET.GET"
  | .detSwitch _ => "DET.SWITCH"
  | .detProc _ _ => "DET.PROC"
  | .detPeek _ => "DET.PEEK"
  | .octInit _ => "OCT.INIT"
  | .octSetShift _ => "OCT.SET.SHIFT"
  | .octSetMix _ => "OCT.SET.MIX"
  | .octSetGain _ => "OCT.SET.GAIN"
  | .octGet _ => "OCT.GET"
  | .octSwitch _ => "OCT.SWITCH"
  | .octProc _ _ => "OCT.PROC"
  | .octPeek _ => "OCT.PEEK"
  | .pshInit _ => "PSH.INIT"
  | .pshSetShift _ => "PSH.SET.SHIFT"
  | .pshSetMix _ => "PSH.SET.MIX"
  | .pshSetGain _ => "PSH.SET.GAIN"
  | .pshGet _ => "PSH.GET"
  | .pshSwitch _ => "PSH.SWITCH"
  | .pshProc _ _ => "PSH.PROC"
  | .pshPeek _ => "PSH.PEEK"
  | .fbeInit _ => "FBE.INIT"
  | .fbeSetDelayMs _ => "FBE.SET.DELAY_MS"
  | .fbeSetDecay _ => "FBE.SET.DECAY"
  | .fbeSetGain _ => "FBE.SET.GAIN"
  | .fbeSetDelaySmp _ => "FBE.SET.DELAY_SMP"
  | .fbeGet _ => "FBE.GET"
  | .fbeSwitch _ => "FBE.SWITCH"
  | .fbeProc _ _ => "FBE.PROC"
  | .fbePeek _ => "FBE.PEEK"
  | .ffeInit _ => "FFE.INIT"
  | .ffeSetDelayMs _ => "FFE.SET.DELAY_MS"
  | .ffeSetRepeats _ => "FFE.SET.REPEATS"
  | .ffeSetDecay _ => "FFE.SET.DECAY"
  | .ffeSetGain _ => "FFE.SET.GAIN"
  | .ffeSetDelaySmp _ => "FFE.SET.DELAY_SMP"
  | .ffeGet _ => "FFE.GET"
  | .ffeSwitch _ => "FFE.SWITCH"
  | .ffeProc _ _ => "FFE.PROC"
  | .ffePeek _ => "FFE.PEEK"
  | .revInit _ => "REV.INIT"
  | .revSetTime _ => "REV.SET.TIME"
  | .revSetGain _ => "REV.SET.GAIN"
  | .revGet _ => "REV.GET"
  | .revSwitch _ => "REV.SWITCH"
  | .revProc _ => "REV.PROC"
  | .revPeek _ => "REV.PEEK"

/-- The operands of a command in the order R62 writes them, as signed numbers where the field is signed. -/
def Instr.operands : Instr → List Int
  | .glbNop => []
  | .glbPeek sel => [(sel.toNat : Int)]
  | .shbInit => []
  | .shbPush x => [x.toInt]
  | .shbRead c o => [(c.toNat : Int), o.toInt]
  | .shbIndex c o => [(c.toNat : Int), o.toInt]
  | .shbPeek sel => [(sel.toNat : Int)]
  | .detInit fs => [fs.toInt]
  | .detSetShift v => [v.toInt]
  | .detSetMix v => [v.toInt]
  | .detSetGain v => [v.toInt]
  | .detGet sel => [(sel.toNat : Int)]
  | .detSwitch on => [if on then 1 else 0]
  | .detProc c x => [(c.toNat : Int), x.toInt]
  | .detPeek sel => [(sel.toNat : Int)]
  | .octInit fs => [fs.toInt]
  | .octSetShift v => [v.toInt]
  | .octSetMix v => [v.toInt]
  | .octSetGain v => [v.toInt]
  | .octGet sel => [(sel.toNat : Int)]
  | .octSwitch on => [if on then 1 else 0]
  | .octProc c x => [(c.toNat : Int), x.toInt]
  | .octPeek sel => [(sel.toNat : Int)]
  | .pshInit fs => [fs.toInt]
  | .pshSetShift v => [v.toInt]
  | .pshSetMix v => [v.toInt]
  | .pshSetGain v => [v.toInt]
  | .pshGet sel => [(sel.toNat : Int)]
  | .pshSwitch on => [if on then 1 else 0]
  | .pshProc c x => [(c.toNat : Int), x.toInt]
  | .pshPeek sel => [(sel.toNat : Int)]
  | .fbeInit fs => [fs.toInt]
  | .fbeSetDelayMs v => [v.toInt]
  | .fbeSetDecay v => [v.toInt]
  | .fbeSetGain v => [v.toInt]
  | .fbeSetDelaySmp v => [v.toInt]
  | .fbeGet sel => [(sel.toNat : Int)]
  | .fbeSwitch on => [if on then 1 else 0]
  | .fbeProc c x => [(c.toNat : Int), x.toInt]
  | .fbePeek sel => [(sel.toNat : Int)]
  | .ffeInit fs => [fs.toInt]
  | .ffeSetDelayMs v => [v.toInt]
  | .ffeSetRepeats v => [v.toInt]
  | .ffeSetDecay v => [v.toInt]
  | .ffeSetGain v => [v.toInt]
  | .ffeSetDelaySmp v => [v.toInt]
  | .ffeGet sel => [(sel.toNat : Int)]
  | .ffeSwitch on => [if on then 1 else 0]
  | .ffeProc c x => [(c.toNat : Int), x.toInt]
  | .ffePeek sel => [(sel.toNat : Int)]
  | .revInit fs => [fs.toInt]
  | .revSetTime v => [v.toInt]
  | .revSetGain v => [v.toInt]
  | .revGet sel => [(sel.toNat : Int)]
  | .revSwitch on => [if on then 1 else 0]
  | .revProc x => [x.toInt]
  | .revPeek sel => [(sel.toNat : Int)]

namespace Machine

/-- A command as R62 writes it: the mnemonic, then the operands in decimal, separated by commas. -/
def asmText (i : Instr) : String :=
  match i.operands with
  | [] => i.mnemonic
  | ops => i.mnemonic ++ " " ++ ", ".intercalate (ops.map toString)

/-- The name of a fault code (R140). -/
def faultName : FaultCode → String
  | .eUnit => "E_UNIT"
  | .eOp => "E_OP"
  | .eSel => "E_SEL"
  | .eRsvd => "E_RSVD"
  | .eNoInit => "E_NOINIT"
  | .eOperand => "E_OPERAND"

/-- The fault code of a number of the FAULT field; 7 to 255 are never produced (R140). -/
def faultOfNumber : Nat → Option FaultCode
  | 1 => some .eUnit
  | 2 => some .eOp
  | 3 => some .eSel
  | 4 => some .eRsvd
  | 5 => some .eNoInit
  | 6 => some .eOperand
  | _ => none

/-- Whether the value a command answers is a sample or a signed register, which is shown as a signed number (R50, R62). -/
def signedAnswer : Instr → Bool
  | .glbNop => false
  | .glbPeek _ => false
  | .shbInit => false
  | .shbPush _ => false
  | .shbRead _ _ => true
  | .shbIndex _ _ => false
  | .shbPeek _ => false
  | .detInit _ => false
  | .detSetShift _ => false
  | .detSetMix _ => false
  | .detSetGain _ => false
  | .detGet _ => false
  | .detSwitch _ => false
  | .detProc _ _ => true
  | .detPeek sel => [10, 11, 12, 18, 19, 20].contains sel.toNat
  | .octInit _ => false
  | .octSetShift _ => false
  | .octSetMix _ => false
  | .octSetGain _ => false
  | .octGet _ => false
  | .octSwitch _ => false
  | .octProc _ _ => true
  | .octPeek sel => [10, 11, 12, 18, 19, 20].contains sel.toNat
  | .pshInit _ => false
  | .pshSetShift _ => false
  | .pshSetMix _ => false
  | .pshSetGain _ => false
  | .pshGet _ => false
  | .pshSwitch _ => false
  | .pshProc _ _ => true
  | .pshPeek sel => [10, 11, 12, 18, 19, 20].contains sel.toNat
  | .fbeInit _ => false
  | .fbeSetDelayMs _ => false
  | .fbeSetDecay _ => false
  | .fbeSetGain _ => false
  | .fbeSetDelaySmp _ => false
  | .fbeGet _ => false
  | .fbeSwitch _ => false
  | .fbeProc _ _ => true
  | .fbePeek _ => false
  | .ffeInit _ => false
  | .ffeSetDelayMs _ => false
  | .ffeSetRepeats _ => false
  | .ffeSetDecay _ => false
  | .ffeSetGain _ => false
  | .ffeSetDelaySmp _ => false
  | .ffeGet _ => false
  | .ffeSwitch _ => false
  | .ffeProc _ _ => true
  | .ffePeek _ => false
  | .revInit _ => false
  | .revSetTime _ => false
  | .revSetGain _ => false
  | .revGet _ => false
  | .revSwitch _ => false
  | .revProc _ => true
  | .revPeek sel => [22, 23, 24, 25, 26].contains sel.toNat

/-- A response as R62 writes it after the command it answers. -/
def responseText (i : Instr) (r : ResponseWord) : String :=
  match faultOfNumber (r.extractLsb' 56 8).toNat with
  | some c => "-> !" ++ faultName c
  | none =>
    let v := r.extractLsb' 0 32
    "-> " ++ (if signedAnswer i then toString v.toInt else toString v.toNat)

end Machine

end Sys2Proof
end

