-- ==== Sys2Proof/Tests/Slice0.lean ====
section
/-! SUPPORT. The model's own tests. Expected values come from spec/: 95_test_vectors.md and the worked values of the rules
named. Then, for every statement of the certificate that has hypotheses, a concrete state and operands that meet them. -/

namespace Sys2Proof.Tests

/-! One theorem is checked after another: each evaluates the model, and side by side they would need a thread each. -/

set_option Elab.async false

open Sys2Proof Sys2Proof.Machine Sys2Proof.Claims

/-- The state after some commands, for building a small state. -/
def after (is : List Instr) (s : State) : State :=
  match execAll is s with
  | .next t => t
  | .fault _ => s
  | .refused _ => s

/-- TINY right after hardware reset. -/
def fresh : State := State.resetWith .tiny

/-- The value a command answers without fault, as a signed number. -/
def reply (i : Instr) (s : State) : Option Int :=
  match exec i s with
  | .next t =>
    match t.responses with
    | r :: _ => if r.extractLsb' 56 8 = 0 then some (r.setWidth 32).toInt else none
    | [] => none
  | .fault _ => none
  | .refused _ => none

/-- The fault code a command answers; 0 for none. -/
def faultOf (i : Instr) (s : State) : Option Nat :=
  match exec i s with
  | .next t => t.responses.head?.map fun r => (r.extractLsb' 56 8).toNat
  | .fault _ => none
  | .refused _ => none

/-- A signed operand. -/
def i32 (v : Int) : Word32 := BitVec.ofInt 32 v

/-- HB with one more cell set. -/
def withCell (a : Nat) (v : Int) (s : State) : State :=
  { s with shb := { s.shb with hb := s.shb.hb.write a (cellOf v) } }

/-! ## WellFormed: one ill-formed term for each check. -/

theorem test_glb_peek_ill_formed : Instr.wellFormed (.glbPeek 4) = false := by decide
theorem test_shb_peek_ill_formed : Instr.wellFormed (.shbPeek 3) = false := by decide
theorem test_det_get_ill_formed : Instr.wellFormed (.detGet 3) = false := by decide
theorem test_det_peek_ill_formed : Instr.wellFormed (.detPeek 21) = false := by decide
theorem test_oct_get_ill_formed : Instr.wellFormed (.octGet 3) = false := by decide
theorem test_oct_peek_ill_formed : Instr.wellFormed (.octPeek 21) = false := by decide
theorem test_psh_get_ill_formed : Instr.wellFormed (.pshGet 3) = false := by decide
theorem test_psh_peek_ill_formed : Instr.wellFormed (.pshPeek 21) = false := by decide
theorem test_fbe_get_ill_formed : Instr.wellFormed (.fbeGet 4) = false := by decide
theorem test_fbe_peek_ill_formed : Instr.wellFormed (.fbePeek 8) = false := by decide
theorem test_ffe_get_ill_formed : Instr.wellFormed (.ffeGet 5) = false := by decide
theorem test_ffe_peek_ill_formed : Instr.wellFormed (.ffePeek 17) = false := by decide
theorem test_rev_get_ill_formed : Instr.wellFormed (.revGet 2) = false := by decide
theorem test_rev_peek_ill_formed : Instr.wellFormed (.revPeek 27) = false := by decide

/-! ## Decode: every constructor from its word, written out from the tables of 30_encoding.md (most of the words stand in
95_test_vectors.md 2.1), and the words that P4 of 96_programs.md says are illegal. -/

theorem test_decode_global :
    decode 0x0000000000000000 = .ok (.glbNop) ∧
    decode 0x0903000000000000 = .ok (.glbPeek 3) := by
  refine ⟨rfl, rfl⟩

theorem test_decode_history :
    decode 0x1100000000000000 = .ok (.shbInit) ∧
    decode 0x16000000FFFFFFFF = .ok (.shbPush 0xFFFFFFFF) ∧
    decode 0x1700003F0000000A = .ok (.shbRead 63 10) ∧
    decode 0x180000050000000A = .ok (.shbIndex 5 10) ∧
    decode 0x1902000000000000 = .ok (.shbPeek 2) := by
  refine ⟨rfl, rfl, rfl, rfl, rfl⟩

theorem test_decode_detune :
    decode 0x210000000000BB80 = .ok (.detInit 48000) ∧
    decode 0x22000000FFFFFFFD = .ok (.detSetShift 0xFFFFFFFD) ∧
    decode 0x2201000000004000 = .ok (.detSetMix 16384) ∧
    decode 0x2202000000008000 = .ok (.detSetGain 32768) ∧
    decode 0x2302000000000000 = .ok (.detGet 2) ∧
    decode 0x2400000000000001 = .ok (.detSwitch true) ∧
    decode 0x25000010000006A4 = .ok (.detProc 16 1700) ∧
    decode 0x2914000000000000 = .ok (.detPeek 20) := by
  refine ⟨rfl, rfl, rfl, rfl, rfl, rfl, rfl, rfl⟩

theorem test_decode_octave :
    decode 0x310000000000BB80 = .ok (.octInit 48000) ∧
    decode 0x32000000FFFFFFFD = .ok (.octSetShift 0xFFFFFFFD) ∧
    decode 0x3201000000004000 = .ok (.octSetMix 16384) ∧
    decode 0x3202000000008000 = .ok (.octSetGain 32768) ∧
    decode 0x3302000000000000 = .ok (.octGet 2) ∧
    decode 0x3400000000000001 = .ok (.octSwitch true) ∧
    decode 0x35000010000006A4 = .ok (.octProc 16 1700) ∧
    decode 0x3914000000000000 = .ok (.octPeek 20) := by
  refine ⟨rfl, rfl, rfl, rfl, rfl, rfl, rfl, rfl⟩

theorem test_decode_pitch_shifter :
    decode 0x410000000000BB80 = .ok (.pshInit 48000) ∧
    decode 0x42000000FFFFFFFD = .ok (.pshSetShift 0xFFFFFFFD) ∧
    decode 0x4201000000004000 = .ok (.pshSetMix 16384) ∧
    decode 0x4202000000008000 = .ok (.pshSetGain 32768) ∧
    decode 0x4302000000000000 = .ok (.pshGet 2) ∧
    decode 0x4400000000000001 = .ok (.pshSwitch true) ∧
    decode 0x45000010000006A4 = .ok (.pshProc 16 1700) ∧
    decode 0x4914000000000000 = .ok (.pshPeek 20) := by
  refine ⟨rfl, rfl, rfl, rfl, rfl, rfl, rfl, rfl⟩

theorem test_decode_feedback_echo :
    decode 0x510000000000BB80 = .ok (.fbeInit 48000) ∧
    decode 0x520000000000001F = .ok (.fbeSetDelayMs 31) ∧
    decode 0x520100000000599A = .ok (.fbeSetDecay 22938) ∧
    decode 0x5202000000008000 = .ok (.fbeSetGain 32768) ∧
    decode 0x52030000000005D0 = .ok (.fbeSetDelaySmp 1488) ∧
    decode 0x5303000000000000 = .ok (.fbeGet 3) ∧
    decode 0x5400000000000000 = .ok (.fbeSwitch false) ∧
    decode 0x55000005FFFFFFFE = .ok (.fbeProc 5 0xFFFFFFFE) ∧
    decode 0x5907000000000000 = .ok (.fbePeek 7) := by
  refine ⟨rfl, rfl, rfl, rfl, rfl, rfl, rfl, rfl, rfl⟩

theorem test_decode_feedforward_echo :
    decode 0x610000000000AC44 = .ok (.ffeInit 44100) ∧
    decode 0x6200000000002711 = .ok (.ffeSetDelayMs 10001) ∧
    decode 0x6201000000000008 = .ok (.ffeSetRepeats 8) ∧
    decode 0x6202000000008001 = .ok (.ffeSetDecay 32769) ∧
    decode 0x620300000001869F = .ok (.ffeSetGain 99999) ∧
    decode 0x620400000000000C = .ok (.ffeSetDelaySmp 12) ∧
    decode 0x6304000000000000 = .ok (.ffeGet 4) ∧
    decode 0x6400000000000001 = .ok (.ffeSwitch true) ∧
    decode 0x6500003FFFFF8000 = .ok (.ffeProc 63 0xFFFF8000) ∧
    decode 0x6910000000000000 = .ok (.ffePeek 16) := by
  refine ⟨rfl, rfl, rfl, rfl, rfl, rfl, rfl, rfl, rfl, rfl⟩

theorem test_decode_reverb :
    decode 0x7100000000001F40 = .ok (.revInit 8000) ∧
    decode 0x72000000000007D0 = .ok (.revSetTime 2000) ∧
    decode 0x7201000000002000 = .ok (.revSetGain 8192) ∧
    decode 0x7301000000000000 = .ok (.revGet 1) ∧
    decode 0x7400000000000001 = .ok (.revSwitch true) ∧
    decode 0x75000000FFFFEF6E = .ok (.revProc 0xFFFFEF6E) ∧
    decode 0x791A000000000000 = .ok (.revPeek 26) := by
  refine ⟨rfl, rfl, rfl, rfl, rfl, rfl, rfl⟩

theorem test_decode_rejects_illegal_words :
    decode 0x9F00000000000000 = .error .eUnit ∧
    decode 0x5607000000000000 = .error .eOp ∧
    decode 0x0A00000000000000 = .error .eOp ∧
    decode 0x5309000100000000 = .error .eSel ∧
    decode 0x0904000000000000 = .error .eSel ∧
    decode 0x0000000000000001 = .error .eRsvd ∧
    decode 0x1601000000000005 = .error .eRsvd ∧
    decode 0x7500000300000000 = .error .eRsvd ∧
    decode 0x5400000000000002 = .error .eRsvd := by
  refine ⟨rfl, rfl, rfl, rfl, rfl, rfl, rfl, rfl, rfl⟩

/-- The host's two functions on FBE.PROC 5, −2: the decoder's answer, and the step as the first command after reset (FBE is
not initialised there: E_NOINIT). -/
theorem test_table_word_decodes : decodeTableWord 64 0x55000005FFFFFFFE = some (.fbeProc 5 0xFFFFFFFE) := by
  decide +kernel

theorem test_fetch_word_runs :
    (match step (State.reset.withFetchWord 64 0x55000005FFFFFFFE) with
      | .next t => t.responses
      | .fault _ => []
      | .refused _ => []) = [0x0500000000000000] := by decide +kernel

/-! ## The ROMs and the arithmetic (R13, R14, R64, R65, R67, R68, 95 2.11). -/

theorem test_sinq_rom :
    sinqTable.length = 257 ∧ sinqTable.sum = 5356550 ∧ sinqTable.foldl Nat.xor 0 = 24332 ∧
    sinqTable.getD 128 0 = 23170 ∧ sinqTable.getD 256 0 = 32767 := by decide +kernel

theorem test_pow2neg :
    [0, 1, 255, 256, 27307, 32768, 65535, 65536, 65537, 131072, 208953, 983040, 1048575, 1048576].map pow2negQ15 =
      [32768, 32768, 32680, 32679, 24548, 23170, 16385, 16384, 16384, 8192, 3594, 1, 0, 0] := by decide +kernel

theorem test_tq15 :
    [32767, 32768, -32767, -32768, -32769, 766747800].map tq15 = [0, 1, 0, -1, -1, 23399] ∧
    tdiv 7 2 = 3 ∧ tdiv (-7) 2 = -3 ∧ tdiv (-1) 256 = 0 := by decide +kernel

theorem test_isqrt : [0, 1, 3, 4, 864691128455135232, 2 ^ 60].map isqrt = [0, 1, 1, 2, 929887696, 2 ^ 30] := by
  decide +kernel

theorem test_ring :
    [ring 5 0 64, ring 5 5 64, ring 5 6 64, ring 0 63 64, ring 63 63 64, ring 0 1 64] = [5, 0, 63, 1, 0, 63] := by
  decide +kernel

/-- R92: what 32768, 40000 and −40000 are narrowed to. -/
theorem test_wrap16 : [32768, 40000, -40000, 32767].map wrap16 = [-32768, -25536, 25536, 32767] := by decide +kernel

/-! ## Commands. -/

/-- R138. -/
theorem test_glb_nop : reply .glbNop fresh = some 0 := by decide +kernel

/-- R139: bits 1 and 5. -/
theorem test_glb_peek_initmap :
    reply (.glbPeek 3) (after [.shbInit, .fbeInit 48000] fresh) = some 34 := by decide +kernel

/-- R23: bit 5 is set by E_NOINIT. -/
theorem test_glb_peek_status_after_fault : reply (.glbPeek 0) (after [.fbeGet 0] fresh) = some 32 := by decide +kernel

/-- R70. -/
theorem test_shb_init_clears :
    reply (.shbPeek 0) (after [.shbInit, .shbPush 7, .shbInit] fresh) = some 0 := by decide +kernel

/-- 95 2.3: push 64 writes cell 63 and the cursor wraps to 0. -/
theorem test_shb_push_wraps :
    (fun s => (reply (.shbPush 64) s, reply (.shbPeek 0) (after [.shbPush 64] s)))
      { after [.shbInit] fresh with shb := { inited := true, cur := 63, hb := [] } } = (some 63, some 0) := by decide +kernel

/-- 95 2.2 line 20. -/
theorem test_shb_push_rejects_no_sample :
    faultOf (.shbPush 0xFFFF7FFF) (after [.shbInit] fresh) = some 6 := by decide +kernel

/-- 95 2.3: offset 0 reads HB[59], offset 64 reads HB[6]. -/
theorem test_shb_read_clamps :
    (fun s => (reply (.shbRead 5 0) s, reply (.shbRead 5 64) s))
      (withCell 59 60 (withCell 6 7 (after [.shbInit] fresh))) = (some 60, some 7) := by decide +kernel

/-- R50. -/
theorem test_shb_read_sign_extends :
    reply (.shbRead 10 10) (withCell 0 (-4242) (after [.shbInit] fresh)) = some (-4242) := by decide +kernel

/-- R68. -/
theorem test_shb_index_wraps :
    (fun s => (reply (.shbIndex 5 6) s, reply (.shbIndex 5 63) s, faultOf (.shbIndex 0 64) s))
      (after [.shbInit] fresh) = (some 63, some 6, some 6) := by decide +kernel

/-- 95 2.3. -/
theorem test_shb_peek :
    (fun s => (reply (.shbPeek 1) s, reply (.shbPeek 2) s)) (after [.shbInit] fresh) = (some 64, some 10) := by decide +kernel

/-- 95 2.5. -/
theorem test_det_init_and_peek :
    (List.range 21).map (fun k => reply (.detPeek (BitVec.ofNat 8 k)) (after [.detInit 48000] fresh)) =
      [1, 0, 48000, 10, 16384, 32768, 16478, 0, 10, 10, -12, -24, 0, 16384, 16384, 0, 10, 10, -12, -24, 0].map some := by decide +kernel

/-- 95 2.5. -/
theorem test_oct_init_and_peek :
    (List.range 21).map (fun k => reply (.octPeek (BitVec.ofNat 8 k)) (after [.octInit 48000] fresh)) =
      [1, 0, 48000, 1200, 16384, 32768, 32768, 16, 30, 14, 16, 0, 32, 16384, 16384, 0, 30, 14, 16, 0, 32].map some := by decide +kernel

/-- 95 2.5. -/
theorem test_psh_init_and_peek :
    (List.range 21).map (fun k => reply (.pshPeek (BitVec.ofNat 8 k)) (after [.pshInit 48000] fresh)) =
      [1, 0, 48000, 700, 16384, 32768, 24548, 8, 20, 12, 0, -16, 16, 16384, 16384, 0, 20, 12, 0, -16, 16].map some := by decide +kernel

/-- R79, TINY DET 100: DY 1, K1_0 11, D1 −10, D3 2. -/
theorem test_det_set_shift :
    (fun s => [8, 7, 10, 12].map fun k => reply (.detPeek k) s) (after [.detInit 48000, .detSetShift 700] fresh) =
      [some 11, some 1, some (-10), some 2] := by decide +kernel

/-- 95 2.9. -/
theorem test_oct_set_shift :
    reply (.octGet 0) (after [.octInit 48000, .octSetShift 0] fresh) = some 1200 := by decide +kernel

/-- 95 2.5: K1_0 30 at once, K1 still 20. -/
theorem test_psh_set_shift_is_latched :
    (fun s => (reply (.pshPeek 8) s, reply (.pshPeek 16) s, reply (.pshPeek 19) s))
      (after [.pshInit 48000, .pshSetShift 5000] fresh) = (some 30, some 20, some (-16)) := by decide +kernel

/-- 95 2.9. -/
theorem test_det_set_mix :
    (fun s => [13, 14].map fun k => reply (.detPeek k) s) (after [.detInit 48000, .detSetMix 32769] fresh) =
      [some 0, some 32768] := by decide +kernel

/-- R80. -/
theorem test_oct_set_mix :
    (fun s => [13, 14].map fun k => reply (.octPeek k) s) (after [.octInit 48000, .octSetMix 0xFFFFFFFF] fresh) =
      [some 32768, some 0] := by decide +kernel

/-- 95 2.9. -/
theorem test_psh_set_mix :
    reply (.pshGet 1) (after [.pshInit 48000, .pshSetMix 32769] fresh) = some 32768 := by decide +kernel

/-- R80: gain 0 is silence. -/
theorem test_det_set_gain :
    (fun s => [13, 14].map fun k => reply (.detPeek k) s) (after [.detInit 48000, .detSetGain 0] fresh) =
      [some 0, some 0] := by decide +kernel

/-- 95 2.9. -/
theorem test_oct_set_gain :
    reply (.octGet 2) (after [.octInit 48000, .octSetGain 40000] fresh) = some 32768 := by decide +kernel

/-- 95 2.9. -/
theorem test_psh_set_gain :
    reply (.pshGet 2) (after [.pshInit 48000, .pshSetGain 0xFFFFFFFF] fresh) = some 0 := by decide +kernel

/-- R88. -/
theorem test_det_get : reply (.detGet 0) (after [.detInit 48000] fresh) = some 10 := by decide +kernel

/-- R89. -/
theorem test_det_switch :
    reply (.detPeek 1) (after [.detInit 48000, .detSwitch true] fresh) = some 1 := by decide +kernel

/-- R88. -/
theorem test_oct_get : reply (.octGet 0) (after [.octInit 48000] fresh) = some 1200 := by decide +kernel

/-- R89. -/
theorem test_oct_switch :
    reply (.octPeek 1) (after [.octInit 48000, .octSwitch true] fresh) = some 1 := by decide +kernel

/-- R88. -/
theorem test_psh_get : reply (.pshGet 0) (after [.pshInit 48000] fresh) = some 700 := by decide +kernel

/-- R89. -/
theorem test_psh_switch :
    reply (.pshPeek 1) (after [.pshInit 48000, .pshSwitch true] fresh) = some 1 := by decide +kernel

/-- R97, tick 16: out 1099. -/
theorem test_psh_proc_at_cycle_start :
    reply (.pshProc 16 1700) (withCell 4 500 (after [.shbInit, .pshInit 48000] fresh)) = some 1099 := by decide +kernel

/-- 95 2.5, tick 19: I 3, K1 19, K2 11, out −22726, STATUS 256. -/
theorem test_psh_proc_wraps_and_sets_govf :
    (fun s => (reply (.pshProc 19 32767) s, reply (.glbPeek 0) (after [.pshProc 19 32767] s)))
      (withCell 0 32767 (withCell 8 32767 (after [.shbInit, .pshInit 48000, .pshSetMix 32768, .pshProc 0 0, .pshProc 0 0,
        .pshProc 0 0] fresh))) = (some (-22726), some 256) := by decide +kernel

/-- 95 2.5, tick 17: I 1, K1 29, K2 13, out 1087. -/
theorem test_oct_proc_crossfades :
    reply (.octProc 17 1800) (withCell 4 500 (after [.shbInit, .octInit 48000, .octProc 0 0] fresh)) = some 1087 := by decide +kernel

/-- R90: I 3 is outside the blend of 3, K1 10; tq15(16384·1000 + 16384·300) = 650. -/
theorem test_det_proc_reads_main_tap :
    reply (.detProc 12 1000) (withCell 2 300 (after [.shbInit, .detInit 48000, .detProc 0 0, .detProc 0 0, .detProc 0 0]
      fresh)) = some 650 := by decide +kernel

/-- 95 2.6. -/
theorem test_fbe_init :
    (fun s => [3, 4, 5, 6, 7].map fun k => reply (.fbePeek k) s) (after [.fbeInit 48000] fresh) =
      [some 250, some 63, some 16384, some 32768, some 28377] := by decide +kernel

/-- 95 2.4. -/
theorem test_fbe_init_clamps_rate :
    reply (.fbePeek 2) (after [.fbeInit 0xFFFFFFFF] fresh) = some 8000 := by decide +kernel

/-- 95 2.4, DEFAULT: 44100 Hz, 15 ms, tap 662; 20000 ms is 10000. -/
theorem test_fbe_set_delay_ms :
    reply (.fbeGet 3) (after [.fbeInit 44100, .fbeSetDelayMs 15] State.reset) = some 662 ∧
    reply (.fbeGet 0) (after [.fbeInit 44100, .fbeSetDelayMs 20000] State.reset) = some 10000 := by decide +kernel

/-- R98, R101: 32768 stores 31129, SCALE 10233. -/
theorem test_fbe_set_decay :
    (fun s => (reply (.fbeGet 1) s, reply (.fbePeek 7) s)) (after [.fbeInit 48000, .fbeSetDecay 32768] fresh) =
      (some 31129, some 10233) := by decide +kernel

/-- R98: GAIN 16384, DECAY 16384, SCALE 14188. -/
theorem test_fbe_set_gain :
    reply (.fbePeek 7) (after [.fbeInit 48000, .fbeSetGain 16384] fresh) = some 14188 := by decide +kernel

/-- 95 2.4, DEFAULT: 44100 Hz, tap 1000, 23 ms. -/
theorem test_fbe_set_delay_smp :
    (fun s => (reply (.fbeGet 3) s, reply (.fbeGet 0) s)) (after [.fbeInit 44100, .fbeSetDelaySmp 1000] State.reset) =
      (some 1000, some 23) := by decide +kernel

/-- R104. -/
theorem test_fbe_get : reply (.fbeGet 2) (after [.fbeInit 48000] fresh) = some 32768 := by decide +kernel

/-- R105. -/
theorem test_fbe_switch :
    reply (.fbePeek 1) (after [.fbeInit 48000, .fbeSwitch true] fresh) = some 1 := by decide +kernel

/-- R106: SCALE 23400, DECAY 22938. -/
theorem test_fbe_proc :
    (fun s => (reply (.fbeProc 12 0) s, reply (.fbeProc 11 (i32 (-10000))) s))
      (withCell 2 7141 (after [.shbInit, .fbeInit 48000, .fbeSetDecay 22938, .fbeSetDelaySmp 10] fresh)) =
      (some 4998, some (-7141)) := by decide +kernel

/-- 95 2.6. -/
theorem test_fbe_proc_clamps :
    reply (.fbeProc 12 (i32 (-32768))) (withCell 2 (-32768) (after [.shbInit, .fbeInit 48000, .fbeSetDecay 22938,
      .fbeSetDelaySmp 10] fresh)) = some (-32768) := by decide +kernel

/-- 95 2.7. -/
theorem test_ffe_init :
    (List.range 17).map (fun k => reply (.ffePeek (BitVec.ofNat 8 k)) (after [.ffeInit 48000] State.reset)) =
      [1, 0, 48000, 250, 12000, 3, 16384, 32768, 28602, 28602, 14301, 7150, 0, 0, 0, 0, 0].map some := by decide +kernel

/-- 95 2.4, TINY: 8000 Hz, 2 ms, tap 16. -/
theorem test_ffe_set_delay_ms :
    reply (.ffeGet 4) (after [.ffeInit 8000, .ffeSetDelayMs 2] fresh) = some 16 := by decide +kernel

/-- R113; 95 2.7: one repeat, SCALE 32768. -/
theorem test_ffe_set_repeats :
    (fun s => (reply (.ffeGet 1) s, reply (.ffePeek 8) s, reply (.ffePeek 10) s))
      (after [.ffeInit 48000, .ffeSetRepeats 0] fresh) = (some 1, some 32768, some 0) := by decide +kernel

/-- R110: DECAY 32768, REPEATS 8, W[7] 11585. -/
theorem test_ffe_set_decay :
    reply (.ffePeek 16) (after [.ffeInit 48000, .ffeSetRepeats 100, .ffeSetDecay 32769] fresh) = some 11585 := by decide +kernel

/-- R110: GAIN 16384, DECAY 32768, REPEATS 2, SCALE 11585. -/
theorem test_ffe_set_gain :
    reply (.ffePeek 8) (after [.ffeInit 48000, .ffeSetRepeats 2, .ffeSetDecay 32768, .ffeSetGain 16384] fresh) = some 11585 := by decide +kernel

/-- 95 2.4, TINY: 8000 Hz, tap 12, 2 ms. -/
theorem test_ffe_set_delay_smp :
    (fun s => (reply (.ffeGet 4) s, reply (.ffeGet 0) s)) (after [.ffeInit 8000, .ffeSetDelaySmp 12] fresh) =
      (some 12, some 2) := by decide +kernel

/-- R117. -/
theorem test_ffe_get : reply (.ffeGet 1) (after [.ffeInit 48000] fresh) = some 3 := by decide +kernel

/-- R118. -/
theorem test_ffe_switch :
    reply (.ffePeek 1) (after [.ffeInit 48000, .ffeSwitch true] fresh) = some 1 := by decide +kernel

/-- 95 2.7: x 1000, taps −2000 and 4000, out 872. -/
theorem test_ffe_proc :
    reply (.ffeProc 5 1000) (withCell 57 (-2000) (withCell 45 4000 (after [.shbInit, .ffeInit 48000, .ffeSetDelaySmp 12]
      fresh))) = some 872 := by decide +kernel

/-- R122, the hazard of R121: 2·32 = N, out 8728. -/
theorem test_ffe_proc_reads_the_cursor_cell :
    reply (.ffeProc 0 8000) (withCell 0 8000 (after [.shbInit, .ffeInit 48000, .ffeSetDelaySmp 32] fresh)) = some 8728 := by decide +kernel

/-- 95 2.8 (a). -/
theorem test_rev_init :
    (List.range 27).map (fun k => reply (.revPeek (BitVec.ofNat 8 k)) (after [.revInit 8000] fresh)) =
      [1, 0, 8000, 2000, 8192, 32726, 32698, 32670, 32613, 8973, 3784, 1595, 283, 14084, 6783, 3041, 561, 18665, 25970,
        29717, 32204, 0, 0, 0, 0, 0, 0].map some := by decide +kernel

/-- R123, TINY row 8000, 10. -/
theorem test_rev_set_time :
    [5, 9, 13, 17, 20].map (fun k => reply (.revPeek k) (after [.revInit 8000, .revSetTime 10] fresh)) =
      [25290, 8973, 13246, 15605, 31336].map some := by decide +kernel

/-- R123: TIME 0 gives 0 everywhere. -/
theorem test_rev_set_time_zero :
    (List.range 16).map (fun k => reply (.revPeek (BitVec.ofNat 8 (k + 5))) (after [.revInit 8000, .revSetTime 0] fresh)) =
      List.replicate 16 (some 0) := by decide +kernel

/-- 95 2.8 (c): the lines are silent, RCUR stays. -/
theorem test_rev_set_gain_clears :
    (fun s => (reply (.revProc 0) s, reply (.revPeek 21) s))
      (after [.revInit 8000, .revProc 16000, .revProc 0, .revProc 0, .revSetGain 8192] fresh) = (some 0, some 3) := by decide +kernel

/-- R128. -/
theorem test_rev_get : reply (.revGet 1) (after [.revInit 8000] fresh) = some 8192 := by decide +kernel

/-- R129. -/
theorem test_rev_switch : reply (.revPeek 1) (after [.revInit 8000, .revSwitch true] fresh) = some 1 := by decide +kernel

/-- R137, tick 3: out 15841. -/
theorem test_rev_proc_first_tap :
    reply (.revProc 0) (after [.revInit 8000, .revSetTime 10, .revSetGain 32768, .revProc 16000, .revProc 0, .revProc 0]
      fresh) = some 15841 := by decide +kernel

/-- R137, tick 3: Z 3233, 1568, 715, 135 and TCZ 81875. -/
theorem test_rev_proc_filters :
    [22, 23, 24, 25, 26].map (fun k => reply (.revPeek k) (after [.revInit 8000, .revSetTime 10, .revSetGain 32768,
      .revProc 16000, .revProc 0, .revProc 0, .revProc 0] fresh)) = [3233, 1568, 715, 135, 81875].map some := by decide +kernel

/-- The assembler spelling (R62): `FBE.PROC 5, -2`. -/
theorem test_asm_text : asmText (.fbeProc 5 0xFFFFFFFE) = "FBE.PROC 5, -2" := by decide +kernel

/-! ## Witnesses: for each statement with hypotheses, a state and operands that meet all of them together. -/

/-- TINY with every unit initialised. -/
def ready : State :=
  after [.shbInit, .detInit 48000, .octInit 48000, .pshInit 48000, .fbeInit 48000, .ffeInit 48000, .revInit 8000] fresh

/-- The same with the cursor of HB at its last cell, which makes it a boundary of every cursor rule. -/
def last : State := { ready with shb := { ready.shb with cur := 63 } }

/-- A next state. -/
def isNext : Result → Bool
  | .next _ => true
  | .fault _ => false
  | .refused _ => false

theorem next_of_isNext {r : Result} (h : isNext r = true) : ∃ t, r = .next t := by
  cases r with
  | next t => exact ⟨t, rfl⟩
  | fault f => cases h
  | refused f => cases h

theorem tiny_legal : Config.tiny.Legal := by decide +kernel

theorem ready_cfg : ready.cfg = Config.tiny := by decide +kernel

theorem ready_inited : ∀ u ∈ [1, 2, 3, 4, 5, 6, 7], inited ready u = true := by decide +kernel

theorem ready_grain_inited : ∀ g, (ready.grain g).inited = true := by
  intro g; cases g <;> decide +kernel

/-- TINY with every unit initialised meets the invariant. -/
theorem ready_inv : ready.Inv where
  legal := by rw [ready_cfg]; exact tiny_legal
  status := by decide +kernel
  cursor := by decide +kernel
  hb := by decide +kernel
  rcursor := by decide +kernel
  rb := by decide +kernel
  grain := by
    intro g _
    cases g
    · exact ⟨by decide +kernel, by decide +kernel, by decide +kernel, by decide +kernel, by decide +kernel,
        0, by unfold Grain.AtTick; decide +kernel⟩
    · exact ⟨by decide +kernel, by decide +kernel, by decide +kernel, by decide +kernel, by decide +kernel,
        16, by unfold Grain.AtTick; decide +kernel⟩
    · exact ⟨by decide +kernel, by decide +kernel, by decide +kernel, by decide +kernel, by decide +kernel,
        8, by unfold Grain.AtTick; decide +kernel⟩
  fbe := fun _ => ⟨by decide +kernel, by decide +kernel, by decide +kernel, by decide +kernel, by decide +kernel,
    by decide +kernel⟩
  ffe := fun _ => ⟨by decide +kernel, by decide +kernel, by decide +kernel, by decide +kernel, by decide +kernel,
    by decide +kernel, by decide +kernel⟩
  rev := fun _ => ⟨by decide +kernel, by decide +kernel, by decide +kernel, by decide +kernel, by decide +kernel,
    by decide +kernel⟩

/-- The invariant does not look at the inputs still to come. -/
theorem inv_pending {s : State} (h : s.Inv) (p : List Input) : State.Inv { s with pending := p } :=
  ⟨h.legal, h.status, h.cursor, h.hb, h.rcursor, h.rb, h.grain, h.fbe, h.ffe, h.rev⟩

theorem last_inv : last.Inv :=
  ⟨ready_inv.legal, ready_inv.status, by decide +kernel, ready_inv.hb, ready_inv.rcursor, ready_inv.rb,
    ready_inv.grain, ready_inv.fbe, ready_inv.ffe, ready_inv.rev⟩

/-- `ready` with one command presented. -/
def offered (w : CommandWord) : State := { ready with pending := [.command w] }

theorem witness_EncodedCommandsDecodeBack : Instr.wellFormed (.revPeek 26) = true := by decide

theorem witness_DecodedWordsEncodeBack : decode 0x791A000000000000 = .ok (.revPeek 26) := rfl

theorem witness_StepRunsTheDecodedCommand :
    (offered 0x55000005FFFFFFFE).pending = [.command 0x55000005FFFFFFFE] ∧ (offered 0x55000005FFFFFFFE).cfg.Legal ∧
      decode 0x55000005FFFFFFFE = .ok (.fbeProc 5 0xFFFFFFFE) := ⟨rfl, ready_inv.legal, rfl⟩

theorem witness_StepIdlesOrRefusesIllegalConfiguration :
    State.reset.pending = [] ∧
    ∃ s : State, s.pending = [.command 0] ∧ ¬s.cfg.Legal :=
  ⟨rfl, { fresh with pending := [.command 0], cfg := { Config.tiny with fsMin := 0 } }, rfl, by decide +kernel⟩

theorem witness_HardwareResetUninitialisesEveryUnit :
    ∃ s : State, s.pending = .hardReset :: [.command 0] ∧ inited s 1 = true :=
  ⟨{ ready with pending := [.hardReset, .command 0] }, rfl, ready_inited 1 (by decide)⟩

theorem witness_EveryStepKeepsTheInvariant : ∃ s t : State, s.Inv ∧ step s = .next t ∧ s.pending ≠ [] :=
  let ⟨t, h⟩ := next_of_isNext (r := step (offered 0x4500003F00007FFF)) (by decide +kernel)
  ⟨_, t, inv_pending ready_inv _, h, by simp⟩

theorem witness_StepIsTotal : (offered 0x7500000000007FFF).Inv := inv_pending ready_inv _

/-- One word for each fault code that the check can give, and one that executes. -/
theorem witness_CommandsFaultByCheckOrder :
    [0x9F00000000000000, 0x0A00000000000000, 0x0904000000000000, 0x5400000000000002, 0x5500004000000000,
      0x5500003F00007FFF].map (checkFault ready) = [1, 2, 3, 4, 6, 0] ∧
    checkFault fresh 0x5500004000009C40 = 5 ∧ fresh.cfg.Legal ∧ ready.cfg.Legal ∧
    ∃ t, step (offered 0x5500003F00007FFF) = .next t :=
  ⟨by decide +kernel, by decide +kernel, tiny_legal, ready_inv.legal, next_of_isNext (by decide +kernel)⟩

theorem witness_StatusBitsAreSticky :
    ∃ t, step { offered 0x9F00000000000000 with status := 0x17C } = .next t ∧
      (offered 0x9F00000000000000).pending.head? ≠ some .hardReset :=
  let ⟨t, h⟩ := next_of_isNext (r := step { offered 0x9F00000000000000 with status := 0x17C }) (by decide +kernel)
  ⟨t, h, by simp [offered]⟩

theorem witness_OnlyInitChangesInited : ∃ t, exec (.revInit 8000) fresh = .next t ∧ inited fresh 7 = false :=
  let ⟨t, h⟩ := next_of_isNext (r := exec (.revInit 8000) fresh) (by decide +kernel)
  ⟨t, h, rfl⟩

theorem witness_CommandsTouchOnlyTheirUnit : ∃ t, exec (.pshProc 63 32767) ready = .next t :=
  next_of_isNext (by decide +kernel)

/-- Two states that differ in STATUS and in REV, and a PROC of PSH. -/
theorem witness_CommandsReadOnlyTheirUnit :
    ∃ s2 t1 : State, (Instr.pshProc 63 32767).unit ≠ .glb ∧ ready.cfg = s2.cfg ∧ SameUnit .psh ready s2 ∧
      ready.shb = s2.shb ∧ exec (.pshProc 63 32767) ready = .next t1 ∧ ready.status ≠ s2.status ∧ ready.rev ≠ s2.rev :=
  let ⟨t1, h⟩ := next_of_isNext (r := exec (.pshProc 63 32767) ready) (by decide +kernel)
  ⟨{ ready with status := 2, rev := Rev.reset }, t1, by decide, rfl, rfl, rfl, h, by decide +kernel, by decide +kernel⟩

theorem witness_OnlyNamedCommandsWriteMemory :
    (∃ t, exec (.shbPush 5) last = .next t) ∧ 62 ≠ last.shb.cur ∧
    (∃ t, exec (.revProc 5) ready = .next t) ∧ 15 ≠ ready.rev.rcur :=
  ⟨next_of_isNext (by decide +kernel), by decide +kernel, next_of_isNext (by decide +kernel), by decide +kernel⟩

/-- Two states after reset with different contents of an uninitialised unit, and an INIT presented. -/
theorem witness_UnspecifiedStateIsUnobservable :
    ∃ s s' t : State, SameButUninitialised s s' ∧ s.fbe ≠ s'.fbe ∧ step s = .next t :=
  let s : State := { fresh with pending := [.command 0x510000000000BB80] }
  let s' : State := { s with fbe := { s.fbe with gain := 77 } }
  let ⟨t, h⟩ := next_of_isNext (r := step s) (by decide +kernel)
  ⟨s, s', t,
    { cfg := rfl, pending := rfl, responses := rfl, status := rfl, shbInited := rfl, shb := fun _ => rfl
      grainInited := fun g => by cases g <;> rfl, grain := fun g _ => by cases g <;> rfl
      fbeInited := rfl, fbe := fun h => Bool.noConfusion h, ffeInited := rfl, ffe := fun _ => rfl
      revInited := rfl, rev := fun _ => rfl }, by decide +kernel, h⟩

theorem witness_InitForgetsWhatTheUnitHeld :
    ∃ t1 t2 : State, opOf (encode (.octInit 48000)) = 1 ∧ ready.cfg = fresh.cfg ∧
      exec (.octInit 48000) ready = .next t1 ∧ exec (.octInit 48000) fresh = .next t2 :=
  let ⟨t1, h1⟩ := next_of_isNext (r := exec (.octInit 48000) ready) (by decide +kernel)
  let ⟨t2, h2⟩ := next_of_isNext (r := exec (.octInit 48000) fresh) (by decide +kernel)
  ⟨t1, t2, by decide, ready_cfg, h1, h2⟩

theorem witness_RegistersStayInTheirRanges :
    ready.Inv ∧ ready.shb.inited = true ∧ (∀ g, (ready.grain g).inited = true) ∧ ready.fbe.inited = true ∧
      ready.ffe.inited = true ∧ ready.rev.inited = true ∧ ready.ffe.repeats ≤ 3 :=
  ⟨ready_inv, ready_inited 1 (by decide), ready_grain_inited, ready_inited 5 (by decide), ready_inited 6 (by decide),
    ready_inited 7 (by decide), by decide +kernel⟩

theorem witness_EnableHasNoEffectOnCommands :
    ∃ t, opOf (encode (.detProc 63 5)) ≠ 1 ∧ opOf (encode (.detProc 63 5)) ≠ 4 ∧
      ¬(opOf (encode (.detProc 63 5)) = 9 ∧ selOf (encode (.detProc 63 5)) = 1) ∧
      exec (.detProc 63 5) ready = .next t :=
  let ⟨t, h⟩ := next_of_isNext (r := exec (.detProc 63 5) ready) (by decide +kernel)
  ⟨t, by decide, by decide, by decide, h⟩

/-- Both clauses: two parameters of one unit, and the two SETs of one tap. -/
theorem witness_OrderOfSettersNeverMatters :
    ready.Inv ∧ setParameter (.fbeSetDecay 9) = some (5, 1) ∧ setParameter (.fbeSetGain 9) = some (5, 2) ∧
    setParameter (.fbeSetDelayMs 9) = some (5, 0) ∧ setParameter (.fbeSetDelaySmp 9) = some (5, 0) ∧
    (∃ t, execAll [.fbeSetDelayMs 9, .fbeSetDelaySmp 9] ready = .next t) ∧
    (∃ t, exec (.fbeSetDelaySmp 9) ready = .next t) :=
  ⟨ready_inv, by decide, by decide, by decide, by decide, next_of_isNext (by decide +kernel),
    next_of_isNext (by decide +kernel)⟩

theorem witness_SettersClampTheirOperand : ready.cfg.Legal ∧ clamped 0x80000000 0 32768 = 0 :=
  ⟨ready_inv.legal, by decide⟩

theorem witness_ReimportingParametersKeepsTheUnit :
    ready.Inv ∧ ready.cfg.msMax < 2 ^ 31 ∧ (∀ g, (ready.grain g).inited = true) ∧ ready.fbe.inited = true ∧
      ready.fbe.off = tapFor ready.cfg ready.fbe.fs ready.fbe.ms ∧ ready.ffe.inited = true ∧
      ready.ffe.off = tapFor ready.cfg ready.ffe.fs ready.ffe.ms :=
  ⟨ready_inv, by decide +kernel, ready_grain_inited, by decide +kernel, by decide +kernel, by decide +kernel,
    by decide +kernel⟩

theorem witness_PushWritesTheCursorCell :
    last.shb.inited = true ∧ last.shb.cur < last.cfg.n ∧ last.shb.cur + 1 = last.cfg.n ∧
      Memory.wf last.shb.hb = true ∧ IsSample 0xFFFF8000 ∧ IsSample 32767 :=
  ⟨by decide +kernel, by decide +kernel, by decide +kernel, by decide +kernel, by decide,
    by decide⟩

/-- The clauses at their bounds: the last cursor, the last offset inside the ring, and the first on either side of it. -/
theorem witness_ReadIndexAndPeekAnswer :
    ready.shb.inited = true ∧ ready.cfg.Legal ∧ (63#16).toNat < ready.cfg.n ∧
      (0 ≤ (63#32).toInt ∧ (63#32).toInt < ready.cfg.n) ∧ (ready.cfg.n : Int) ≤ (64#32).toInt ∧
      (0xFFFFFFFF#32).toInt < 0 :=
  ⟨by decide +kernel, ready_inv.legal, by decide +kernel, by decide +kernel, by decide +kernel, by decide⟩

theorem witness_PushedHistoryReadsBack :
    last.Inv ∧ last.shb.inited = true ∧ (∀ x ∈ [5, 0xFFFF8000, 32767], IsSample x) ∧ 63 < last.cfg.n :=
  ⟨last_inv, by decide +kernel, fun x hx => by
    simp only [List.mem_cons, List.not_mem_nil, or_false] at hx
    rcases hx with rfl | rfl | rfl <;> exact by decide, by decide +kernel⟩

theorem witness_PushMayComeBeforeOrAfterProc :
    last.Inv ∧ (∃ i, i = Instr.fbeProc (BitVec.ofNat 16 last.shb.cur) 5) ∧
      ∃ (i : Instr) (g : GrainId), i = Instr.grainProc (BitVec.ofNat 16 last.shb.cur) 5 g :=
  ⟨last_inv, ⟨_, rfl⟩, ⟨_, .psh, rfl⟩⟩

/-- For every INIT: a legal configuration. -/
theorem witness_GrainInitSetsDefaults : fresh.cfg.Legal := tiny_legal
theorem witness_FeedbackEchoInitSetsDefaults : State.reset.cfg.Legal := by decide +kernel
theorem witness_FeedforwardEchoInitSetsDefaults : fresh.cfg.Legal := tiny_legal
theorem witness_ReverbInitSetsDefaults : fresh.cfg.Legal := tiny_legal

theorem witness_GrainSettersRecompute : ready.Inv ∧ ∀ g, (ready.grain g).inited = true :=
  ⟨ready_inv, ready_grain_inited⟩

theorem witness_GrainGetSwitchAndPeekAnswer :
    (∀ g, (ready.grain g).inited = true) ∧ (2#8).toNat < 3 ∧ (20#8).toNat < 21 :=
  ⟨ready_grain_inited, by decide, by decide⟩

/-- All three clauses, at the last cursor and at the bounds of a sample. -/
theorem witness_GrainProcIsOneTick :
    ((fresh.grain .det).inited = false ∧ (after [.detInit 48000] fresh).shb.inited = false) ∧
    (ready.cfg.n ≤ (64#16).toNat ∧ ¬IsSample 32768 ∧ ¬IsSample 0xFFFF7FFF) ∧
    (ready.Inv ∧ (∀ g, (ready.grain g).inited = true) ∧ ready.shb.inited = true ∧ (63#16).toNat < ready.cfg.n ∧
      IsSample 32767 ∧ IsSample 0xFFFF8000) :=
  ⟨⟨by decide +kernel, by decide +kernel⟩,
    ⟨by decide +kernel, fun h => absurd h.2 (by decide), fun h => absurd h.1 (by decide)⟩,
    ready_inv, ready_grain_inited, by decide +kernel, by decide +kernel, by decide, by decide⟩

theorem witness_GrainTapsStayInBounds : ready.Inv ∧ ∀ g, (ready.grain g).inited = true := ⟨ready_inv, ready_grain_inited⟩

theorem witness_RateAccumulatorSpreadsSteps :
    1 ≤ ready.cfg.psh.cycle ∧ 8 ≤ ready.cfg.psh.cycle ∧ 8 ≤ ready.psh.k1 ∧ ready.psh.i = 0 ∧
      ready.psh.d = 2 * ((8 : Nat) : Int) - ready.cfg.psh.cycle ∧
      ready.psh.ad2 = 2 * (((8 : Nat) : Int) - ready.cfg.psh.cycle) ∧ ready.psh.ad3 = 2 * ((8 : Nat) : Int) ∧
      15 < ready.cfg.psh.cycle := by decide +kernel

/-- Both clauses: `ready` stands at the start of a cycle, so both lengths are 16. -/
theorem witness_GrainCycleIsPeriodic :
    ready.Inv ∧ (ready.grain .psh).inited = true ∧ ready.shb.inited = true ∧
      (∀ p ∈ List.replicate 16 ((63, 32767) : BitVec 16 × Word32), p.1.toNat < ready.cfg.n ∧ IsSample p.2) ∧
      (List.replicate 16 ((63, 32767) : BitVec 16 × Word32)).length = (ready.cfg.grain .psh).cycle ∧
      (ready.grain .psh).ad2 = (ready.grain .psh).d2 ∧ (ready.grain .psh).ad3 = (ready.grain .psh).d3 ∧
      (List.replicate 16 ((63, 32767) : BitVec 16 × Word32)).length =
        (ready.cfg.grain .psh).cycle - (ready.grain .psh).i :=
  ⟨ready_inv, by decide +kernel, by decide +kernel,
    fun p hp => by rw [List.eq_of_mem_replicate hp]; exact ⟨by decide +kernel, by decide⟩,
    by decide +kernel, by decide +kernel, by decide +kernel, by decide +kernel⟩

theorem witness_LinearGrainNeverSetsGovf :
    ready.Inv ∧ (ready.cfg.grain .oct).xf = .linear ∧ ∃ t, exec (Instr.grainProc 63 0xFFFF8000 .oct) ready = .next t :=
  ⟨ready_inv, by decide +kernel, next_of_isNext (by decide +kernel)⟩

theorem witness_LinearCrossfadeConservesWeight : Config.tiny.oct.xf = .linear ∧ 3 < Config.tiny.oct.blend := by
  decide +kernel

theorem witness_FeedbackEchoSettersRecompute : ready.Inv ∧ ready.fbe.inited = true := ⟨ready_inv, by decide +kernel⟩

theorem witness_FeedbackEchoGetSwitchAndPeekAnswer :
    ready.fbe.inited = true ∧ (3#8).toNat < 4 ∧ (7#8).toNat < 8 := ⟨by decide +kernel, by decide, by decide⟩

theorem witness_FeedbackEchoProcAnswers :
    (fresh.fbe.inited = false ∧ (after [.fbeInit 48000] fresh).shb.inited = false) ∧
    (ready.cfg.n ≤ (64#16).toNat ∧ ¬IsSample 32768) ∧
    (ready.fbe.inited = true ∧ ready.shb.inited = true ∧ ready.fbe.off < ready.cfg.n ∧ (63#16).toNat < ready.cfg.n ∧
      IsSample 32767 ∧ IsSample 0xFFFF8000) :=
  ⟨⟨by decide +kernel, by decide +kernel⟩, ⟨by decide +kernel, fun h => absurd h.2 (by decide)⟩, by decide +kernel,
    by decide +kernel, by decide +kernel, by decide +kernel, by decide, by decide⟩

/-- A tick that is a multiple of the tap (126 = 2 · 63), and one that is not. -/
theorem witness_FeedbackEchoImpulseResponse :
    ready.Inv ∧ ready.fbe.inited = true ∧ ready.shb.inited = true ∧ (∀ i, Memory.read ready.shb.hb i = 0) ∧
      IsSample 0xFFFF8000 ∧ ready.fbe.off ∣ 126 ∧ ¬ready.fbe.off ∣ 64 := by
  have h : ready.shb.hb = [] := by decide +kernel
  exact ⟨ready_inv, by decide +kernel, by decide +kernel, fun i => by rw [h]; rfl, by decide,
    by decide +kernel, by decide +kernel⟩

theorem witness_FeedforwardEchoSettersRecompute : ready.Inv ∧ ready.ffe.inited = true := ⟨ready_inv, by decide +kernel⟩

theorem witness_FeedforwardEchoGetSwitchAndPeekAnswer :
    ready.ffe.inited = true ∧ (4#8).toNat < 5 ∧ (16#8).toNat < 17 := ⟨by decide +kernel, by decide, by decide⟩

theorem witness_FeedforwardEchoProcAnswers :
    (fresh.ffe.inited = false ∧ (after [.ffeInit 48000] fresh).shb.inited = false) ∧
    (ready.cfg.n ≤ (64#16).toNat ∧ ¬IsSample 0xFFFF7FFF) ∧
    (ready.Inv ∧ ready.ffe.inited = true ∧ ready.shb.inited = true ∧ (63#16).toNat < ready.cfg.n ∧ IsSample 32767) :=
  ⟨⟨by decide +kernel, by decide +kernel⟩, ⟨by decide +kernel, fun h => absurd h.1 (by decide)⟩, ready_inv,
    by decide +kernel, by decide +kernel, by decide +kernel, by decide⟩

theorem witness_ReverbSettersRecomputeAndClear : ready.Inv ∧ ready.rev.inited = true := ⟨ready_inv, by decide +kernel⟩

theorem witness_ReverbGetSwitchAndPeekAnswer :
    ready.rev.inited = true ∧ (1#8).toNat < 2 ∧ (26#8).toNat < 27 := ⟨by decide +kernel, by decide, by decide⟩

theorem witness_ReverbProcIsOneTick :
    fresh.rev.inited = false ∧ ¬IsSample 32768 ∧ ready.Inv ∧ ready.rev.inited = true ∧ IsSample 32767 :=
  ⟨by decide +kernel, fun h => absurd h.2 (by decide), ready_inv, by decide +kernel, by decide⟩

theorem witness_ReverbSilenceStays : ready.Inv ∧ ready.rev.inited = true ∧ RevCleared ready.rev := by
  have h : ready.rev.rb = Quad.all [] := by decide +kernel
  have hz : ready.rev.z = Quad.all 0 := by decide +kernel
  refine ⟨ready_inv, by decide +kernel, ?_, ?_, ?_, by decide +kernel⟩
  · intro k a; rw [h]; fin_cases k <;> rfl
  · intro k; rw [h]; fin_cases k <;> rfl
  · intro k; rw [hz]; fin_cases k <;> rfl

/-- The last two clauses too: TIME equal to T60NY, and TIME 0. -/
theorem witness_ReverbCoefficientsContract :
    ready.Inv ∧ ready.rev.inited = true ∧ (after [.revSetTime 2] ready).rev.time ≤ ready.cfg.t60ny ∧
      (after [.revSetTime 0] ready).rev.time = 0 :=
  ⟨ready_inv, by decide +kernel, by decide +kernel, by decide +kernel⟩

theorem witness_RingIndexIsModular : 63 < 64 ∧ 0 < 64 := by decide

theorem witness_TransportIsLittleEndian : 7 < 8 := by decide

theorem witness_PowerRomEntriesAreExact : 256 ≤ 256 ∧ 255 < 256 := by decide

theorem witness_PowerOfTwoPrimitiveDecreases : 0 ≤ 1 ∧ 983039 < 983040 ∧ 1048576 ≤ 1048576 := by decide

theorem witness_ScalingRoundsTowardZero : (0 : Int) < 2 ∧ (0 : Int) ≤ 7 := by decide

end Sys2Proof.Tests
end

