-- ==== Sys2Proof/Proofs/Scope.lean ====
section
/-! The arithmetic primitives of 00_scope.md, each tied once to the library operation it computes: `tdiv` is truncating
division (R13), `isqrt` is `Nat.sqrt` (R14), `ring` is subtraction modulo the length (R16, R68). -/

namespace Sys2Proof.Laws

open Sys2Proof.Machine

/-! Scaling (R13). -/

theorem tdiv_of_nonneg {a : Int} (b : Int) (ha : 0 ≤ a) : tdiv a b = a / b := if_pos ha

theorem tdiv_of_neg {a : Int} (b : Int) (ha : a < 0) : tdiv a b = -(-a / b) := if_neg (Int.not_le.mpr ha)

/-- The model's division is the library's truncating division, for a divisor of any sign. -/
theorem tdiv_eq_int_tdiv (a b : Int) : tdiv a b = a.tdiv b := by
  rcases Int.lt_or_le a 0 with ha | ha
  · have hneg : 0 ≤ -a := by omega
    rw [tdiv_of_neg b ha, ← Int.tdiv_eq_ediv_of_nonneg hneg, Int.neg_tdiv, Int.neg_neg]
  · rw [tdiv_of_nonneg b ha, Int.tdiv_eq_ediv_of_nonneg ha]

theorem tdiv_neg_left (a b : Int) : tdiv (-a) b = -tdiv a b := by
  simp only [tdiv_eq_int_tdiv, Int.neg_tdiv]

theorem tq15_eq_tdiv (a : Int) : tq15 a = tdiv a 32768 := rfl

theorem tq15_eq_int_tdiv (a : Int) : tq15 a = a.tdiv 32768 := tdiv_eq_int_tdiv a 32768

/-- Settles O59: for a non-negative dividend `tdiv` is the floor division, and it is odd in its dividend. -/
theorem scalingRoundsTowardZero : Obligations.ScalingRoundsTowardZero := by
  intro a b hb
  refine ⟨fun ha => ?_, tdiv_neg_left a b, tq15_eq_tdiv a⟩
  rw [tdiv_of_nonneg b ha]
  exact ⟨Int.mul_ediv_self_le hb.ne', Int.lt_mul_ediv_self_add hb |>.trans_eq (by ring)⟩

/-! The square root (R14). -/

/-- The invariant of the digit loop: with `k` digits to find, the root lies in `[s, s + 2^k)`. -/
theorem isqrtDigits_eq_sqrt (v : Nat) :
    ∀ k s : Nat, s * s ≤ v → v < (s + 2 ^ k) * (s + 2 ^ k) → isqrtDigits v k s = Nat.sqrt v
  | 0, _, hlo, hhi => Nat.eq_sqrt.mpr ⟨hlo, hhi⟩
  | k + 1, s, hlo, hhi => by
    have hhalves : s + 2 ^ k + 2 ^ k = s + 2 ^ (k + 1) := by rw [pow_succ]; omega
    rw [isqrtDigits]
    split
    next hdigit => exact isqrtDigits_eq_sqrt v k _ hdigit (by rwa [hhalves])
    next hdigit => exact isqrtDigits_eq_sqrt v k s hlo (Nat.not_le.mp hdigit)

/-- `log2 v / 2 + 1` binary digits are enough for the root of `v`. -/
theorem lt_sq_two_pow_half_log2 (v : Nat) : v < 2 ^ (v.log2 / 2 + 1) * 2 ^ (v.log2 / 2 + 1) := by
  calc v < 2 ^ (v.log2 + 1) := Nat.lt_log2_self
    _ ≤ 2 ^ (v.log2 / 2 + 1 + (v.log2 / 2 + 1)) := Nat.pow_le_pow_right (by decide) (by omega)
    _ = _ := pow_add ..

theorem isqrt_eq_sqrt (v : Nat) : isqrt v = Nat.sqrt v :=
  isqrtDigits_eq_sqrt v _ 0 (Nat.zero_le v) (by simpa only [Nat.zero_add] using lt_sq_two_pow_half_log2 v)

/-- Settles O56: the digit-by-digit root is `Nat.sqrt`. -/
theorem isqrtIsTheFloorOfTheRoot : Obligations.IsqrtIsTheFloorOfTheRoot := by
  intro v
  rw [isqrt_eq_sqrt]
  exact ⟨Nat.sqrt_le v, fun _ => Nat.le_sqrt.mpr⟩

/-! The ring read index (R16, R68). -/

theorem ring_of_le {c o : Nat} (n : Nat) (h : o ≤ c) : ring c o n = c - o := if_pos h

theorem ring_of_lt {c o : Nat} (n : Nat) (h : c < o) : ring c o n = n - o + c := if_neg (Nat.not_le.mpr h)

/-- Only offset 0 is the cursor's own cell. -/
theorem ring_eq_cursor_iff {c o n : Nat} (ho : o < n) : ring c o n = c ↔ o = 0 := by
  rcases Nat.lt_or_ge c o with h | h
  · rw [ring_of_lt n h]; omega
  · rw [ring_of_le n h]; omega

section
variable {c o n : Nat} (hc : c < n) (ho : o < n)
include hc ho

theorem ring_lt : ring c o n < n := by
  rcases Nat.lt_or_ge c o with h | h
  · rw [ring_of_lt n h]; omega
  · rw [ring_of_le n h]; omega

/-- In the integers the index is `c - o` modulo `n`: the step back wraps at most once. -/
theorem ring_eq_sub_emod : (ring c o n : Int) = ((c : Int) - o) % n := by
  rcases Nat.lt_or_ge c o with h | h
  · rw [ring_of_lt n h, ← Int.add_emod_right, Int.emod_eq_of_lt] <;> omega
  · rw [ring_of_le n h, Int.emod_eq_of_lt] <;> omega

theorem ring_ring_eq_emod {b : Nat} (hb : b < n) : (ring (ring c o n) b n : Int) = ((c : Int) - o - b) % n := by
  rw [ring_eq_sub_emod (ring_lt hc ho) hb, ring_eq_sub_emod hc ho, Int.emod_sub_emod]

end

/-- Settles O55, from the index as `c - o` modulo `n`. -/
theorem ringIndexIsModular : Obligations.RingIndexIsModular := by
  intro c o n hc ho
  refine ⟨ring_lt hc ho, ?_, ring_eq_cursor_iff ho, fun _ hb => ring_ring_eq_emod hc ho hb⟩
  rw [Int.add_emod_right, ring_eq_sub_emod hc ho]

end Sys2Proof.Laws
end

section
/-! The byte order of a byte-wide transport (R37). -/

namespace Sys2Proof.Laws

open Sys2Proof.Machine

theorem bytesOfWord_eq_map (w : BitVec 64) :
    bytesOfWord w = (List.range 8).map fun k => w.extractLsb' (8 * k) 8 := rfl

theorem bytesOfWord_getD (w : BitVec 64) {k : Nat} (hk : k < 8) :
    (bytesOfWord w).getD k 0 = w.extractLsb' (8 * k) 8 := by
  simp [bytesOfWord_eq_map, hk]

/-- The byte at bit `8 * k` is digit `k` of the number in base 256. -/
theorem toNat_extract_byte {n : Nat} (w : BitVec n) (k : Nat) :
    (w.extractLsb' (8 * k) 8).toNat = w.toNat / 256 ^ k % 256 := by
  rw [BitVec.extractLsb'_toNat, Nat.shiftRight_eq_div_pow, pow_mul]
  rfl

/-- The bytes are neighbouring fields of the word, so joining them from the top gives all 64 bits. -/
@[simp] theorem wordOfBytes_bytesOfWord (w : BitVec 64) : wordOfBytes (bytesOfWord w) = some w := by
  simp only [bytesOfWord, wordOfBytes, BitVec.extractLsb'_append_extractLsb'_eq_extractLsb']
  exact congrArg some BitVec.extractLsb'_eq_self

/-- Settles O5, from each byte as a base 256 digit of the word. -/
theorem transportIsLittleEndian : Obligations.TransportIsLittleEndian := by
  intro w
  refine ⟨rfl, wordOfBytes_bytesOfWord w, fun k hk => ?_⟩
  rw [bytesOfWord_getD w hk, toNat_extract_byte]

end Sys2Proof.Laws
end

section
/-! The frame of a command, for any part of the state that one chooses to observe: what a command of a unit cannot
change (R7). Each shared operation gets one rule, and `exec` one theorem over the 57 commands. -/

namespace Sys2Proof.Laws

open Sys2Proof.Machine

/-- `π` sees neither STATUS nor the responses, which every unit may change. -/
structure IgnoresReply {α : Type*} (π : State → α) : Prop where
  respond : ∀ s r, π (s.respond r) = π s
  status : ∀ s v, π { s with status := v } = π s

/-- `π` sees nothing of unit `u`. -/
def IgnoresUnit {α : Type*} (π : State → α) : UnitId → Prop
  | .glb => True
  | .shb => ∀ s u, π { s with shb := u } = π s
  | .det => ∀ s u, π (s.setGrain .det u) = π s
  | .oct => ∀ s u, π (s.setGrain .oct u) = π s
  | .psh => ∀ s u, π (s.setGrain .psh u) = π s
  | .fbe => ∀ s u, π { s with fbe := u } = π s
  | .ffe => ∀ s u, π { s with ffe := u } = π s
  | .rev => ∀ s u, π { s with rev := u } = π s

/-- If `r` is a next state, `π` sees no difference from `s`. -/
def Keeps {α : Type*} (π : State → α) (s : State) (r : Result) : Prop := ∀ t, r = .next t → π t = π s

section
variable {α : Type*} {π : State → α} {s : State}

theorem keeps_fault {r : Fault} : Keeps π s (.fault r) := fun _ h => by cases h

theorem Keeps.withTap {s' : State} {c o : Nat} {k : Int → Result} (hk : ∀ x, Keeps π s (k x)) :
    Keeps π s (withTap s' c o k) :=
  fun t h => hk _ t (withTap_next h).2.2

theorem Keeps.ffeTaps {s' : State} {count n idx : Nat} {acc : Int} {k : Int → Result} (hk : ∀ x, Keeps π s (k x)) :
    Keeps π s (ffeTaps s' count n idx acc k) := fun t h =>
  have ⟨sum, hsum⟩ := ffeTaps_next h
  hk sum t hsum

theorem Keeps.withDivisor {d : Nat} {k : Result} (hk : Keeps π s k) : Keeps π s (withDivisor d k) :=
  fun t h => hk t (withDivisor_next h).2

variable (hπ : IgnoresReply π)
include hπ

theorem keeps_answer {v : Word32} {s' : State} (h : π s' = π s) : Keeps π s (answer v s') := by
  intro t ht
  rw [answer_next.1 ht, hπ.respond, h]

theorem keeps_takeFault {c : FaultCode} : Keeps π s (takeFault c s) := by
  intro t ht
  rw [takeFault_next.1 ht, hπ.respond, hπ.status]

theorem keeps_whenInited {b : Bool} {k : Result} (hk : Keeps π s k) : Keeps π s (whenInited b s k) := by
  intro t ht
  rcases whenInited_next ht with ⟨-, ht⟩ | ⟨-, ht⟩
  · exact hk t ht
  · exact keeps_takeFault hπ t ht

theorem keeps_whenOperand {b : Bool} {k : Result} (hk : Keeps π s k) : Keeps π s (whenOperand b s k) := by
  intro t ht
  rcases whenOperand_next ht with ⟨-, ht⟩ | ⟨-, ht⟩
  · exact hk t ht
  · exact keeps_takeFault hπ t ht

theorem keeps_readRegister {b : Bool} {regs : List Word32} {sel : BitVec 8} :
    Keeps π s (readRegister b regs sel s) := by
  intro t ht
  rcases readRegister_next ht with ⟨_, -, -, ht⟩ | ⟨_, -, -, ht⟩ | ⟨-, ht⟩
  · exact keeps_answer hπ rfl t ht
  · exact keeps_takeFault hπ t ht
  · exact keeps_takeFault hπ t ht

/-! The commands that write no register and no memory, seen by any observation. -/

theorem keeps_shbRead (c : BitVec 16) (o : Word32) : Keeps π s (execShbRead c o s) :=
  keeps_whenInited hπ <| keeps_whenOperand hπ <| .withTap fun _ => keeps_answer hπ rfl

theorem keeps_shbIndex (c : BitVec 16) (o : Word32) : Keeps π s (execShbIndex c o s) :=
  keeps_whenInited hπ <| keeps_whenOperand hπ <| keeps_answer hπ rfl

theorem keeps_fbeProc (c : BitVec 16) (x : Word32) : Keeps π s (execFbeProc c x s) :=
  keeps_whenInited hπ <| keeps_whenOperand hπ <| .withTap fun _ => keeps_answer hπ rfl

theorem keeps_ffeProc (c : BitVec 16) (x : Word32) : Keeps π s (execFfeProc c x s) :=
  keeps_whenInited hπ <| keeps_whenOperand hπ <| .ffeTaps fun _ => keeps_answer hπ rfl

/-! The commands that write their unit, seen by an observation that ignores it. -/

theorem keeps_shbPush (hu : IgnoresUnit π .shb) (x : Word32) : Keeps π s (execShbPush x s) := by
  refine keeps_whenInited hπ (keeps_whenOperand hπ ?_)
  split
  · exact keeps_answer hπ (hu s _)
  · exact keeps_fault

section
variable {g : GrainId} (hg : ∀ s u, π (s.setGrain g u) = π s)
include hg

theorem keeps_grainFinish (x gr : Int) : Keeps π s (grainFinish g x gr s) :=
  keeps_answer hπ ((hg _ _).trans (hπ.status s _))

theorem keeps_grainProc (c : BitVec 16) (x : Word32) : Keeps π s (grainProc g c x s) := by
  refine keeps_whenInited hπ (keeps_whenOperand hπ (.withTap fun t1 => ?_))
  split
  · exact .withTap fun t2 => keeps_grainFinish hπ hg _ _
  · exact keeps_grainFinish hπ hg _ _

theorem keeps_whenInited_setGrain {b : Bool} {u : Grain} :
    Keeps π s (whenInited b s (answer 0 (s.setGrain g u))) :=
  keeps_whenInited hπ (keeps_answer hπ (hg s u))

end

theorem keeps_whenInited_fbeSet (hu : IgnoresUnit π .fbe) {b : Bool} {u : Fbe} :
    Keeps π s (whenInited b s (fbeSet u s)) :=
  keeps_whenInited hπ (keeps_answer hπ (hu s _))

theorem keeps_whenInited_ffeSet (hu : IgnoresUnit π .ffe) {b : Bool} {u : Ffe} :
    Keeps π s (whenInited b s (ffeSet u s)) :=
  keeps_whenInited hπ (keeps_answer hπ (hu s _))

theorem keeps_revSet (hu : IgnoresUnit π .rev) {u : Rev} {f : Rev → Rev} : Keeps π s (revSet u f s) := by
  intro t ht
  obtain ⟨-, rfl⟩ := revSet_next ht
  rw [hπ.respond, hu]

theorem keeps_revInit (hu : IgnoresUnit π .rev) (fs : Word32) : Keeps π s (execRevInit fs s) := by
  unfold execRevInit
  exact keeps_revSet hπ hu

theorem keeps_revProc (hu : IgnoresUnit π .rev) (x : Word32) : Keeps π s (execRevProc x s) := by
  refine keeps_whenInited hπ (keeps_whenOperand hπ ?_)
  split
  · exact keeps_answer hπ (hu s _)
  · exact keeps_fault

/-- A command keeps whatever can be observed without its own unit, STATUS and the responses (R7). -/
theorem keeps_exec (i : Instr) (hu : IgnoresUnit π i.unit) : Keeps π s (exec i s) := by
  cases i with
  | glbNop => exact keeps_answer hπ rfl
  | shbInit => exact keeps_answer hπ (hu s _)
  | shbPush x => exact keeps_shbPush hπ hu x
  | shbRead c o => exact keeps_shbRead hπ c o
  | shbIndex c o => exact keeps_shbIndex hπ c o
  | detInit fs | octInit fs | pshInit fs => exact keeps_answer hπ (hu s _)
  | detSetShift v | octSetShift v | pshSetShift v => exact keeps_whenInited_setGrain hπ hu
  | detSetMix v | octSetMix v | pshSetMix v => exact keeps_whenInited_setGrain hπ hu
  | detSetGain v | octSetGain v | pshSetGain v => exact keeps_whenInited_setGrain hπ hu
  | detSwitch on | octSwitch on | pshSwitch on => exact keeps_whenInited_setGrain hπ hu
  | detProc c x | octProc c x | pshProc c x => exact keeps_grainProc hπ hu c x
  | fbeInit fs | ffeInit fs => exact keeps_answer hπ (hu s _)
  | fbeSetDelayMs v | fbeSetDecay v | fbeSetGain v => exact keeps_whenInited_fbeSet hπ hu
  | ffeSetDelayMs v | ffeSetRepeats v | ffeSetDecay v | ffeSetGain v => exact keeps_whenInited_ffeSet hπ hu
  | fbeSetDelaySmp v | ffeSetDelaySmp v => exact keeps_whenInited hπ (.withDivisor (keeps_answer hπ (hu s _)))
  | fbeSwitch on | ffeSwitch on | revSwitch on => exact keeps_whenInited hπ (keeps_answer hπ (hu s _))
  | fbeProc c x => exact keeps_fbeProc hπ c x
  | ffeProc c x => exact keeps_ffeProc hπ c x
  | revInit fs => exact keeps_revInit hπ hu fs
  | revSetTime v | revSetGain v => exact keeps_whenInited hπ (keeps_revSet hπ hu)
  | revProc x => exact keeps_revProc hπ hu x
  | glbPeek sel | shbPeek sel | detGet sel | detPeek sel | octGet sel | octPeek sel | pshGet sel | pshPeek sel
  | fbeGet sel | fbePeek sel | ffeGet sel | ffePeek sel | revGet sel | revPeek sel => exact keeps_readRegister hπ

end

end Sys2Proof.Laws
end

section
/-! Who writes the memories, and where (R34, R41). -/

namespace Sys2Proof.Laws

open Sys2Proof.Machine Sys2Proof.Claims

/-- A write leaves every other cell as it was, also in a list that is not in canonical form (compare `read_write`). -/
theorem read_write_of_ne {a b : Nat} (m : Memory) (v : Sample) (hne : b ≠ a) :
    Memory.read (Memory.write m a v) b = Memory.read m b := by
  induction m with
  | nil => unfold Memory.write; split <;> simp [Memory.read, hne.symm]
  | cons c m ih =>
    obtain ⟨i, u⟩ := c
    unfold Memory.write
    split
    · split <;> simp [Memory.read, hne.symm]
    · split
      next hai => subst hai; split <;> simp [Memory.read, hne.symm]
      next => simp only [Memory.read, ih]

@[simp] theorem at4_zip {α β γ : Type} (f : α → β → γ) (p : Quad α) (q : Quad β) (k : Fin 4) :
    at4 (p.zip f q) k = f (at4 p k) (at4 q k) := by
  match k with
  | 0 | 1 | 2 | 3 => rfl

/-- HB, as an observation of the state. -/
def hbOf (s : State) : Memory := s.shb.hb

/-- The four lines of REV, as an observation of the state. -/
def linesOf (s : State) : Quad Memory := s.rev.rb

theorem hbOf_ignoresReply : IgnoresReply hbOf := ⟨fun _ _ => rfl, fun _ _ => rfl⟩

theorem linesOf_ignoresReply : IgnoresReply linesOf := ⟨fun _ _ => rfl, fun _ _ => rfl⟩

theorem hbOf_ignoresUnit {u : UnitId} (hu : u ≠ .shb) : IgnoresUnit hbOf u := by
  cases u with
  | glb => trivial
  | shb => exact absurd rfl hu
  | det | oct | psh | fbe | ffe | rev => exact fun _ _ => rfl

theorem linesOf_ignoresUnit {u : UnitId} (hu : u ≠ .rev) : IgnoresUnit linesOf u := by
  cases u with
  | glb => trivial
  | rev => exact absurd rfl hu
  | shb | det | oct | psh | fbe | ffe => exact fun _ _ => rfl

/-- No command but SHB.INIT and SHB.PUSH writes HB (R41). -/
theorem keeps_hbOf (i : Instr) (s : State) (hinit : i ≠ .shbInit) (hpush : ∀ x, i ≠ .shbPush x) :
    Keeps hbOf s (exec i s) := by
  have hπ := hbOf_ignoresReply
  cases i with
  | shbInit => exact absurd rfl hinit
  | shbPush x => exact absurd rfl (hpush x)
  | shbRead c o => exact keeps_shbRead hπ c o
  | shbIndex c o => exact keeps_shbIndex hπ c o
  | shbPeek sel => exact keeps_readRegister hπ
  | _ => exact keeps_exec hπ _ (hbOf_ignoresUnit nofun)

/-- No command but REV.INIT, REV.SET and REV.PROC writes a line of REV (R34). -/
theorem keeps_linesOf (i : Instr) (s : State) (hinit : ∀ fs, i ≠ .revInit fs) (htime : ∀ v, i ≠ .revSetTime v)
    (hgain : ∀ v, i ≠ .revSetGain v) (hproc : ∀ x, i ≠ .revProc x) : Keeps linesOf s (exec i s) := by
  have hπ := linesOf_ignoresReply
  cases i with
  | revInit fs => exact absurd rfl (hinit fs)
  | revSetTime v => exact absurd rfl (htime v)
  | revSetGain v => exact absurd rfl (hgain v)
  | revProc x => exact absurd rfl (hproc x)
  | revGet sel | revPeek sel => exact keeps_readRegister hπ
  | revSwitch on => exact keeps_whenInited hπ (keeps_answer hπ rfl)
  | _ => exact keeps_exec hπ _ (linesOf_ignoresUnit nofun)

/-- SHB.PUSH faults and leaves HB alone, or writes the sample at the cursor (R71). -/
theorem shbPush_hb {x : Word32} {s t : State} (h : exec (.shbPush x) s = .next t) :
    t.shb.hb = s.shb.hb ∨ t.shb.hb = s.shb.hb.write s.shb.cur (cellOf (dataValue x)) := by
  rcases whenInited_next h with ⟨-, h⟩ | ⟨-, h⟩
  · rcases whenOperand_next h with ⟨-, h⟩ | ⟨-, h⟩
    · split at h
      · rw [answer_next.1 h]; exact .inr rfl
      · cases h
    · exact .inl (keeps_takeFault hbOf_ignoresReply t h)
  · exact .inl (keeps_takeFault hbOf_ignoresReply t h)

/-- REV.PROC faults and leaves the lines alone, or they are those of the unit one tick later (R130). -/
theorem revProc_lines {x : Word32} {s t : State} (h : exec (.revProc x) s = .next t) :
    t.rev.rb = s.rev.rb ∨ t.rev.rb = (revTick s.cfg s.rev (dataValue x)).rb := by
  rcases whenInited_next h with ⟨-, h⟩ | ⟨-, h⟩
  · rcases whenOperand_next h with ⟨-, h⟩ | ⟨-, h⟩
    · split at h
      · rw [answer_next.1 h]; exact .inr rfl
      · cases h
    · exact .inl (keeps_takeFault linesOf_ignoresReply t h)
  · exact .inl (keeps_takeFault linesOf_ignoresReply t h)

/-- A tick writes each line at the cursor only (step 4 of R130). -/
theorem read_revTick_of_ne {cfg : Config} {u : Rev} {x : Int} {a : Nat} (k : Fin 4) (hne : a ≠ u.rcur) :
    Memory.read (at4 (revTick cfg u x).rb k) a = Memory.read (at4 u.rb k) a := by
  simp only [revTick, at4_zip, read_write_of_ne _ _ hne]

/-- A cell of HB other than the one at the cursor survives SHB.PUSH. -/
theorem read_shbPush_of_ne {x : Word32} {s t : State} {a : Nat} (h : exec (.shbPush x) s = .next t)
    (hne : a ≠ s.shb.cur) : Memory.read t.shb.hb a = Memory.read s.shb.hb a := by
  rcases shbPush_hb h with hb | hb
  · rw [hb]
  · rw [hb, read_write_of_ne _ _ hne]

/-- A cell of a line other than the one at the cursor survives REV.PROC. -/
theorem read_revProc_of_ne {x : Word32} {s t : State} {a : Nat} (k : Fin 4) (h : exec (.revProc x) s = .next t)
    (hne : a ≠ s.rev.rcur) : Memory.read (at4 t.rev.rb k) a = Memory.read (at4 s.rev.rb k) a := by
  rcases revProc_lines h with hrb | hrb
  · rw [hrb]
  · rw [hrb, read_revTick_of_ne k hne]

/-- Settles O17: the two commands that write single cells apart, the memories are kept as a whole. -/
theorem onlyNamedCommandsWriteMemory : Obligations.OnlyNamedCommandsWriteMemory := by
  intro i s t h
  refine ⟨fun hinit a ha => ?_, fun hinit htime hgain k a ha => ?_⟩
  · by_cases hpush : ∃ x, i = .shbPush x
    · obtain ⟨x, rfl⟩ := hpush
      exact read_shbPush_of_ne h (ha x rfl)
    · have hhb : t.shb.hb = s.shb.hb := keeps_hbOf i s hinit (not_exists.1 hpush) t h
      rw [hhb]
  · by_cases hproc : ∃ x, i = .revProc x
    · obtain ⟨x, rfl⟩ := hproc
      exact read_revProc_of_ne k h (ha x rfl)
    · have hrb : t.rev.rb = s.rev.rb := keeps_linesOf i s hinit htime hgain (not_exists.1 hproc) t h
      rw [hrb]

end Sys2Proof.Laws
end

section
/-! The ROM P2N (R64). Its 257 entries are fixed numbers, so each fact is one evaluation of the table; the powers compared
have up to 3841 bits, which is why the kernel's own arithmetic decides the exactness. -/

namespace Sys2Proof.Laws

open Sys2Proof.Machine

/-- `p` is the integer part of `32768 · 2^(-f/256)`, said without real arithmetic: both sides raised to the power 256. -/
abbrev IsFloorOfPowerOfTwo (f p : Nat) : Prop := p ^ 256 ≤ 2 ^ (3840 - f) ∧ 2 ^ (3840 - f) < (p + 1) ^ 256

theorem p2n_isFloorOfPowerOfTwo : ∀ f ≤ 256, IsFloorOfPowerOfTwo f (p2n f) := by decide +kernel

theorem length_p2nTable : p2nTable.length = 257 := by decide +kernel

theorem p2n_eq_getElem {f : Nat} (hf : f < p2nTable.length) : p2n f = p2nTable[f] :=
  List.getElem_eq_getD 0 |>.symm

/-- Reading the ROM at every index gives back the table. -/
theorem map_p2n_range : (List.range 257).map p2n = p2nTable :=
  List.ext_getElem (by rw [List.length_map, List.length_range, length_p2nTable]) fun f _ hf => by
    rw [List.getElem_map, List.getElem_range, p2n_eq_getElem hf]

theorem p2nTable_isChain_gt : p2nTable.IsChain (· > ·) := by decide +kernel

/-- The ROM is strictly decreasing, from its neighbouring entries in the table. -/
theorem p2n_succ_lt {f : Nat} (hf : f < 256) : p2n (f + 1) < p2n f := by
  have hsucc : f + 1 < p2nTable.length := by rw [length_p2nTable]; omega
  rw [p2n_eq_getElem hsucc, p2n_eq_getElem (Nat.lt_of_succ_lt hsucc)]
  exact p2nTable_isChain_gt.getElem f hsucc

theorem sum_p2nTable : p2nTable.sum = 6075549 := by decide +kernel

theorem xor_p2nTable : p2nTable.foldl Nat.xor 0 = 35437 := by decide +kernel

/-- Settles O58: the entries one by one, then the table as a whole. -/
theorem powerRomEntriesAreExact : Obligations.PowerRomEntriesAreExact := by
  refine ⟨p2n_isFloorOfPowerOfTwo, fun f => p2n_succ_lt, ?_⟩
  rw [map_p2n_range]
  exact ⟨sum_p2nTable, xor_p2nTable⟩

end Sys2Proof.Laws
end

section
/-! The words of the statements tied to the model: the response word as a number (R50), the two ways a command ends (R15,
R141), a clamped operand (R18), the operand checks (R58, R59, R73), and a tap as a position modulo `N` (R68, R69). -/

namespace Sys2Proof.Laws

open Sys2Proof.Machine Sys2Proof.Claims

/-! How a command ends. -/

/-- The fields of a response word stand apart, so joining them is adding them. -/
theorem responseWord_eq_word {k : Nat} (hk : k < 2 ^ 8) (v : Word32) : responseWord (BitVec.ofNat 8 k) v = word k v := by
  apply BitVec.eq_of_toNat_eq
  rw [responseWord, word, BitVec.toNat_append, BitVec.toNat_append, ← Nat.shiftLeft_add_eq_or_of_lt v.isLt,
    BitVec.toNat_ofNat, BitVec.toNat_ofNat, Nat.mod_eq_of_lt hk]
  simp only [BitVec.ofNat_eq_ofNat, BitVec.toNat_zero, Nat.shiftLeft_eq, Nat.or_zero]
  omega

theorem answer_eq_replied (v : Word32) (s : State) : answer v s = .next (replied v s) := by
  rw [answer, State.respond, replied, ← responseWord_eq_word (by decide)]
  rfl

theorem takeFault_eq_faulted (c : FaultCode) (s : State) : takeFault c s = .next (faulted (codeNumber c) s) := by
  have hcode : codeNumber c < 2 ^ 8 := by cases c <;> decide
  have hbit : 1#32 <<< codeNumber c = BitVec.ofNat 32 (2 ^ codeNumber c) := by cases c <;> decide
  rw [takeFault, faultWord, setStatusBit, responseWord_eq_word hcode, hbit]
  rfl

/-- GET and PEEK of an initialised unit answer the register the selector names. -/
theorem readRegister_of_getElem? {regs : List Word32} {sel : BitVec 8} {v : Word32} (s : State)
    (h : regs[sel.toNat]? = some v) : readRegister true regs sel s = .next (replied v s) := by
  rw [readRegister, h]
  exact answer_eq_replied v s

/-! Operands. -/

theorem clampData_eq_clamped (v : Word32) (lo hi : Nat) : clampData v lo hi = clamped v lo hi := rfl

theorem clamped_le {lo hi : Nat} (h : lo ≤ hi) (v : Word32) : clamped v lo hi ≤ hi := by
  unfold clamped; omega

theorem sampleOk_iff {x : Word32} : sampleOk x = true ↔ IsSample x := decide_eq_true_iff

theorem cursorOk_iff {s : State} {c : BitVec 16} : cursorOk s c = true ↔ c.toNat < s.cfg.n := decide_eq_true_iff

theorem offsetOk_iff {s : State} {o : Word32} : offsetOk s o = true ↔ 0 ≤ o.toInt ∧ o.toInt < s.cfg.n :=
  decide_eq_true_iff

/-! Cells and positions of a ring. -/

/-- A cell holds a legal sample exactly: 16 bits are enough for it (R11, R36). -/
theorem toInt_cellOf {v : Int} (hlo : -32768 ≤ v) (hhi : v ≤ 32767) : (cellOf v).toInt = v := by
  rw [cellOf, BitVec.toInt_ofInt, Int.bmod_eq_of_le] <;> omega

theorem nextCursor_eq_mod {c n : Nat} (hc : c < n) : nextCursor c n = (c + 1) % n := by
  unfold nextCursor
  split
  next hlast => rw [hlast, Nat.mod_self]
  next hne => rw [Nat.mod_eq_of_lt (by omega)]

/-- The tap that a command reads is the cell `o` behind the cursor, modulo `N`. -/
theorem withTap_eq_tap {s : State} {c : BitVec 16} {o : Nat} (hc : c.toNat < s.cfg.n) (ho : o < s.cfg.n)
    (k : Int → Result) : withTap s c.toNat o k = k (tap s c o) := by
  rw [withTap_of_lt hc ho, tap, cellAt, ← ring_eq_sub_emod hc ho, Int.toNat_natCast]

end Sys2Proof.Laws
end

section
/-! The commands of unit SHB (R70 to R74). -/

namespace Sys2Proof.Laws

open Sys2Proof.Machine Sys2Proof.Claims

/-- SHB.PUSH of a legal sample, as one equation (R71). -/
theorem exec_shbPush {s : State} {x : Word32} (hinit : s.shb.inited = true) (hcur : s.shb.cur < s.cfg.n)
    (hx : IsSample x) :
    exec (.shbPush x) s = .next (replied (BitVec.ofNat 32 s.shb.cur)
      { s with shb := { inited := true, cur := (s.shb.cur + 1) % s.cfg.n,
                        hb := s.shb.hb.write s.shb.cur (cellOf x.toInt) } }) := by
  change execShbPush x s = _
  rw [execShbPush, hinit, whenInited_true, sampleOk_iff.2 hx, whenOperand_true, if_pos hcur, nextCursor_eq_mod hcur,
    answer_eq_replied]
  simp only [hinit]
  rfl

/-- The cell at the cursor gets the sample and every other cell keeps its own (R71). -/
theorem toInt_read_write_cellOf {m : Memory} (hm : Memory.wf m = true) {x : Word32} (hx : IsSample x) (c a : Nat) :
    (Memory.read (m.write c (cellOf x.toInt)) a).toInt = if a = c then x.toInt else (Memory.read m a).toInt := by
  rw [read_write hm, apply_ite BitVec.toInt, toInt_cellOf hx.1 hx.2]

section
variable {s : State} (hinit : s.shb.inited = true)
include hinit

/-- SHB.READ inside the ring (R72); a legal configuration has `K_MIN ≤ N - 1`, so the clamped offset is in the ring. -/
theorem exec_shbRead {c : BitVec 16} (hlegal : s.cfg.Legal) (hc : c.toNat < s.cfg.n) (o : Word32) :
    exec (.shbRead c o) s = .next (replied (BitVec.ofInt 32 (tap s c (clamped o 10 (s.cfg.n - 1)))) s) := by
  obtain ⟨-, -, hkmin, -⟩ := hlegal
  have hoff : clamped o 10 (s.cfg.n - 1) < s.cfg.n := (clamped_le hkmin o).trans_lt (by omega)
  change execShbRead c o s = _
  rw [execShbRead, hinit, whenInited_true, cursorOk_iff.2 hc, whenOperand_true, clampData_eq_clamped, kMin,
    withTap_eq_tap hc hoff, answer_eq_replied]
  rfl

/-- SHB.INDEX inside the ring (R73). -/
theorem exec_shbIndex {c : BitVec 16} {o : Word32} (hc : c.toNat < s.cfg.n) (hlo : 0 ≤ o.toInt)
    (hhi : o.toInt < s.cfg.n) :
    exec (.shbIndex c o) s = .next (replied (BitVec.ofInt 32 (((c.toNat : Int) - o.toInt) % s.cfg.n)) s) := by
  have hring : (ring c.toNat o.toInt.toNat s.cfg.n : Int) = ((c.toNat : Int) - o.toInt) % s.cfg.n := by
    rw [ring_eq_sub_emod hc (by omega), Int.toNat_of_nonneg hlo]
  change execShbIndex c o s = _
  rw [execShbIndex, hinit, whenInited_true, cursorOk_iff.2 hc, offsetOk_iff.2 ⟨hlo, hhi⟩, Bool.and_true,
    whenOperand_true, answer_eq_replied, ← hring, BitVec.ofInt_natCast]
  rfl

/-- SHB.INDEX outside the ring is E_OPERAND, whatever the cursor operand (R73). -/
theorem exec_shbIndex_of_offset_outside (c : BitVec 16) {o : Word32} (ho : o.toInt < 0 ∨ s.cfg.n ≤ o.toInt) :
    exec (.shbIndex c o) s = .next (faulted 6 s) := by
  have hbad : offsetOk s o = false := by
    rw [Bool.eq_false_iff, ne_eq, offsetOk_iff]
    omega
  change execShbIndex c o s = _
  rw [execShbIndex, hinit, whenInited_true, hbad, Bool.and_false, whenOperand_false, takeFault_eq_faulted]
  rfl

/-- SHB.PEEK answers the register the selector names (R74). -/
theorem exec_shbPeek {sel : BitVec 8} {v : Word32} (h : (shbRegisters s)[sel.toNat]? = some v) :
    exec (.shbPeek sel) s = .next (replied v s) := by
  change execShbPeek sel s = _
  rw [execShbPeek, hinit, readRegister_of_getElem? s h]

end

/-- Settles O26: the new HB is the empty memory. -/
theorem historyInitClears : Obligations.HistoryInitClears := fun _ =>
  ⟨[], answer_eq_replied 0 _, wf_nil, read_nil⟩

/-- Settles O27: the new HB is the old one with one cell written. -/
theorem pushWritesTheCursorCell : Obligations.PushWritesTheCursorCell := fun _ _ hinit hcur hwf hx =>
  ⟨_, exec_shbPush hinit hcur hx, wf_write hwf _ _, toInt_read_write_cellOf hwf hx _⟩

/-- Settles O28, one equation for each command and each way it ends. -/
theorem readIndexAndPeekAnswer : Obligations.ReadIndexAndPeekAnswer := fun _ hinit =>
  ⟨fun _ o hlegal hc => exec_shbRead hinit hlegal hc o, fun _ _ hc hlo hhi => exec_shbIndex hinit hc hlo hhi,
    fun c _ ho => exec_shbIndex_of_offset_outside hinit c ho, exec_shbPeek hinit rfl, exec_shbPeek hinit rfl,
    exec_shbPeek hinit rfl⟩

end Sys2Proof.Laws
end

section
/-! The rate accumulator (R81): the closed form of its value and of the steps it has made, and one tick of it. -/

namespace Sys2Proof.Laws

open Sys2Proof.Machine

/-- The value of the accumulator after `m` ticks of a cycle of `cycle` ticks with `dy` steps (R81, item 3). -/
def accumulatorAt (dy cycle m : Nat) : Int := 2 * dy - cycle + 2 * dy * m - 2 * cycle * stepsDone dy cycle m

theorem accumulatorAt_eq (dy cycle m : Nat) :
    accumulatorAt dy cycle m = 2 * dy - cycle + 2 * (dy * m : Nat) - 2 * (cycle * stepsDone dy cycle m : Nat) := by
  rw [accumulatorAt, Int.natCast_mul, Int.natCast_mul, Int.mul_assoc, Int.mul_assoc]

section
variable {dy cycle : Nat} (hcycle : 0 < cycle)
include hcycle

theorem stepsDone_zero : stepsDone dy cycle 0 = 0 := Nat.div_eq_of_lt (by omega)

/-- A cycle makes exactly `dy` steps. -/
theorem stepsDone_cycle : stepsDone dy cycle cycle = dy := by
  calc stepsDone dy cycle cycle = (2 * cycle * dy + cycle - 1) / (2 * cycle) := rfl
    _ = (cycle - 1 + 2 * cycle * dy) / (2 * cycle) := by congr 1; omega
    _ = (cycle - 1) / (2 * cycle) + dy := Nat.add_mul_div_left _ _ (by omega)
    _ = dy := by rw [Nat.div_eq_of_lt (by omega), Nat.zero_add]

/-- The step count is the floor that rounds a half down, said without division. -/
theorem le_stepsDone_iff {m k : Nat} : k ≤ stepsDone dy cycle m ↔ 2 * (cycle * k) < 2 * (dy * m) + cycle := by
  rw [stepsDone, Nat.le_div_iff_mul_le (by omega), Nat.mul_comm k, Nat.mul_assoc, Nat.mul_assoc, Nat.mul_comm m]
  omega

theorem accumulatorAt_zero : accumulatorAt dy cycle 0 = 2 * dy - cycle := by
  rw [accumulatorAt_eq, stepsDone_zero hcycle, Nat.mul_zero, Nat.mul_zero]
  omega

/-- The accumulator is above its lower bound because the floor is not too big. -/
theorem lt_accumulatorAt (m : Nat) : 2 * ((dy : Int) - cycle) < accumulatorAt dy cycle m := by
  have hfloor := (le_stepsDone_iff hcycle).1 (le_refl (stepsDone dy cycle m))
  rw [accumulatorAt_eq]
  omega

/-- The accumulator is at or below its upper bound because the floor is not too small. -/
theorem accumulatorAt_le (m : Nat) : accumulatorAt dy cycle m ≤ 2 * dy := by
  have hfloor := (le_stepsDone_iff hcycle).not.1 (Nat.not_succ_le_self (stepsDone dy cycle m))
  rw [Nat.mul_succ] at hfloor
  rw [accumulatorAt_eq]
  omega

/-- The accumulator is positive exactly when the next tick's floor is bigger. -/
theorem accumulatorAt_pos_iff_le (m : Nat) :
    0 < accumulatorAt dy cycle m ↔ stepsDone dy cycle m + 1 ≤ stepsDone dy cycle (m + 1) := by
  rw [le_stepsDone_iff hcycle, accumulatorAt_eq, Nat.mul_succ, Nat.mul_succ]
  omega

end

theorem stepsDone_mono (dy cycle : Nat) : Monotone (stepsDone dy cycle) := fun _ _ hmn =>
  Nat.div_le_div_right (Nat.sub_le_sub_right
    (Nat.add_le_add_right (Nat.mul_le_mul_right dy (Nat.mul_le_mul_left 2 hmn)) cycle) 1)

section
variable {dy cycle : Nat} (hcycle : 0 < cycle) (hdy : dy ≤ cycle)
include hcycle hdy

/-- A tick makes at most one step, because `dy` is at most `cycle`. -/
theorem stepsDone_succ_le (m : Nat) : stepsDone dy cycle (m + 1) ≤ stepsDone dy cycle m + 1 := by
  have hlow := (le_stepsDone_iff hcycle).not.1 (Nat.not_succ_le_self (stepsDone dy cycle m))
  rw [← Nat.not_lt, ← Nat.succ_le_iff, le_stepsDone_iff hcycle]
  simp only [Nat.mul_succ] at hlow ⊢
  omega

theorem stepsDone_succ_eq_or (m : Nat) :
    stepsDone dy cycle (m + 1) = stepsDone dy cycle m + 1 ∨ stepsDone dy cycle (m + 1) = stepsDone dy cycle m := by
  have hle := stepsDone_succ_le hcycle hdy m
  have hge := stepsDone_mono dy cycle (Nat.le_add_right m 1)
  omega

/-- The accumulator is positive exactly before a step (R81). -/
theorem accumulatorAt_pos_iff (m : Nat) :
    0 < accumulatorAt dy cycle m ↔ stepsDone dy cycle (m + 1) = stepsDone dy cycle m + 1 := by
  rw [accumulatorAt_pos_iff_le hcycle, (stepsDone_succ_le hcycle hdy m).ge_iff_eq', eq_comm]

/-- `m` ticks make at most `m` steps. -/
theorem stepsDone_le_self (m : Nat) : stepsDone dy cycle m ≤ m := by
  induction m with
  | zero => exact (stepsDone_zero hcycle).le
  | succ m ih => exact (stepsDone_succ_le hcycle hdy m).trans (Nat.succ_le_succ ih)

end

/-- `v` holds the phase, the main tap and the accumulator of tick `m` of a cycle of `dy` steps in which the main tap
began at `k1` (R81). -/
def AtRateTick (dy cycle k1 m : Nat) (v : Grain) : Prop :=
  v.i = m ∧ v.k1 = k1 - stepsDone dy cycle m ∧ v.d = accumulatorAt dy cycle m ∧
  v.ad2 = 2 * ((dy : Int) - cycle) ∧ v.ad3 = 2 * (dy : Int)

/-- One tick of the taps and the accumulator goes from tick `m` to tick `m + 1`. -/
theorem AtRateTick.tick {gc : GrainConfig} {dy k1 m : Nat} {v : Grain} (hcycle : 0 < gc.cycle)
    (hdy : dy ≤ gc.cycle) (h : AtRateTick dy gc.cycle k1 m v) :
    AtRateTick dy gc.cycle k1 (m + 1) (grainStep gc v) := by
  obtain ⟨hi, hk1, hd, had2, had3⟩ := h
  have hpos := accumulatorAt_pos_iff hcycle hdy m
  rw [← hd] at hpos
  rw [grainStep]
  split
  next hstep =>
    have hy := hpos.1 hstep
    refine ⟨congrArg (· + 1) hi, ?_, ?_, had2, had3⟩
    · rw [hy, hk1, Nat.sub_sub]
    · change v.d + v.ad2 = _
      rw [hd, had2, accumulatorAt_eq, accumulatorAt_eq, hy, Nat.mul_succ, Nat.mul_succ]
      omega
  next hstep =>
    have hy := (stepsDone_succ_eq_or hcycle hdy m).resolve_left (hpos.not.1 hstep)
    refine ⟨congrArg (· + 1) hi, ?_, ?_, had2, had3⟩
    · rw [hy, hk1]
    · change v.d + v.ad3 = _
      rw [hd, had3, accumulatorAt_eq, accumulatorAt_eq, hy, Nat.mul_succ]
      omega

theorem AtRateTick.iterate {gc : GrainConfig} {dy k1 : Nat} {u : Grain} (hcycle : 0 < gc.cycle) (hdy : dy ≤ gc.cycle)
    (h : AtRateTick dy gc.cycle k1 0 u) (m : Nat) : AtRateTick dy gc.cycle k1 m ((grainStep gc)^[m] u) := by
  induction m with
  | zero => exact h
  | succ m ih => rw [Function.iterate_succ_apply']; exact ih.tick hcycle hdy

/-- Settles O36, from the closed form of the registers after `m` ticks. -/
theorem rateAccumulatorSpreadsSteps : Obligations.RateAccumulatorSpreadsSteps := by
  intro gc u dy hcycle hdy _ hi hd had2 had3 y v
  have hstart : AtRateTick dy gc.cycle u.k1 0 u :=
    ⟨hi, by rw [stepsDone_zero hcycle, Nat.sub_zero], by rw [hd, accumulatorAt_zero hcycle], had2, had3⟩
  have htick : ∀ m, AtRateTick dy gc.cycle u.k1 m (v m) := hstart.iterate hcycle hdy
  refine ⟨stepsDone_zero hcycle, stepsDone_cycle hcycle, fun m _ => ?_⟩
  obtain ⟨hphase, hk1, hacc, -, -⟩ := htick m
  obtain ⟨-, hk1next, -, -, -⟩ := htick (m + 1)
  rw [hacc, hd]
  exact ⟨hphase, hk1, rfl, lt_accumulatorAt hcycle m, accumulatorAt_le hcycle m, accumulatorAt_pos_iff hcycle hdy m,
    stepsDone_succ_eq_or hcycle hdy m, hk1next⟩

end Sys2Proof.Laws
end

section
/-! The bounds of the taps (R94). -/

namespace Sys2Proof.Laws

open Sys2Proof.Machine

/-- Every grain unit of a legal configuration is legal. -/
theorem grainConfig_legal {cfg : Config} (h : cfg.Legal) (g : GrainId) : (cfg.grain g).Legal cfg.n := by
  obtain ⟨-, -, -, hdet, hoct, hpsh, -⟩ := h
  cases g
  · exact hdet
  · exact hoct
  · exact hpsh

section
variable {u : Grain} {gc : GrainConfig} {dy : Nat} (h : u.AtTick gc dy)
include h

/-- The main tap: at most the steps of the cycle lie ahead of it, at most those of the blend region behind `K_MIN`. -/
theorem atTick_k1_bounds : kMin ≤ u.k1 ∧ u.k1 ≤ kMin + gc.blend + gc.cycle := by
  obtain ⟨hdy, hi, -, -, -, hk1, -⟩ := h
  have hcycle : 0 < gc.cycle := Nat.zero_lt_of_lt hi
  have hdone := stepsDone_mono dy gc.cycle hi.le
  rw [stepsDone_cycle hcycle] at hdone
  have hblend := stepsDone_le_self hcycle hdy gc.blend
  omega

/-- The blend tap: it makes its steps in the blend region only and ends at `K_MIN`. -/
theorem atTick_k2_bounds : kMin ≤ u.k2 ∧ u.k2 ≤ kMin + gc.blend := by
  obtain ⟨hdy, hi, -, -, -, -, hk2⟩ := h
  have hdone := stepsDone_mono dy gc.cycle (Nat.min_le_right u.i gc.blend)
  have hblend := stepsDone_le_self (Nat.zero_lt_of_lt hi) hdy gc.blend
  omega

end

/-- Settles O35: the dynamic registers are those of a tick of some cycle, and HB is long enough for each of its taps. -/
theorem grainTapsStayInBounds : Obligations.GrainTapsStayInBounds := by
  intro g s hinv hinit
  obtain ⟨dy, htick⟩ := (hinv.grain g hinit).tick
  obtain ⟨hk1lo, hk1hi⟩ := atTick_k1_bounds htick
  obtain ⟨hk2lo, hk2hi⟩ := atTick_k2_bounds htick
  obtain ⟨-, hi, -⟩ := htick
  obtain ⟨-, -, -, hroom, -⟩ := grainConfig_legal hinv.legal g
  simp only [kMin] at hk1lo hk1hi hk2lo hk2hi hroom
  exact ⟨by omega, hk2lo, hk2hi, hk1lo, hk1hi, by omega, by omega⟩

end Sys2Proof.Laws
end

section
/-! INIT, SET, GET, SWITCH and PEEK of the grain units (R84 to R89, R93). -/

namespace Sys2Proof.Laws

open Sys2Proof.Machine Sys2Proof.Claims

/-! The three units run one operation each (R78). -/

theorem exec_grainInit (g : GrainId) (fs : Word32) (s : State) :
    exec (Instr.grainInit fs g) s = grainInit g fs s := by cases g <;> rfl

theorem exec_grainSetShift (g : GrainId) (v : Word32) (s : State) :
    exec (Instr.grainSetShift v g) s = grainSetShift g v s := by cases g <;> rfl

theorem exec_grainSetMix (g : GrainId) (v : Word32) (s : State) :
    exec (Instr.grainSetMix v g) s = grainSetMix g v s := by cases g <;> rfl

theorem exec_grainSetGain (g : GrainId) (v : Word32) (s : State) :
    exec (Instr.grainSetGain v g) s = grainSetGain g v s := by cases g <;> rfl

theorem exec_grainGet (g : GrainId) (sel : BitVec 8) (s : State) :
    exec (Instr.grainGet sel g) s = grainGet g sel s := by cases g <;> rfl

theorem exec_grainSwitch (g : GrainId) (on : Bool) (s : State) :
    exec (Instr.grainSwitch on g) s = grainSwitch g on s := by cases g <;> rfl

theorem exec_grainProc (g : GrainId) (c : BitVec 16) (x : Word32) (s : State) :
    exec (Instr.grainProc c x g) s = grainProc g c x s := by cases g <;> rfl

theorem exec_grainPeek (g : GrainId) (sel : BitVec 8) (s : State) :
    exec (Instr.grainPeek sel g) s = grainPeek g sel s := by cases g <;> rfl

theorem whenInited_of {b : Bool} (h : b = true) (s : State) (k : Result) : whenInited b s k = k := if_pos h

/-! The recompute step (R79). -/

theorem isFloor_div (a : Nat) {b : Nat} (hb : 0 < b) : IsFloor (a / b) a b := by
  unfold IsFloor
  exact_mod_cast And.intro (Nat.div_mul_le_self a b) ((Nat.lt_mul_div_succ a hb).trans_eq (Nat.mul_comm ..))

/-- A power of two below `32768 · 2^(-f/256)` is at most the entry that is its integer part. -/
theorem two_pow_le_p2n {f k : Nat} (hf : f ≤ 256) (hk : k * 256 + f ≤ 3840) : 2 ^ k ≤ p2n f := by
  have hpow : (2 ^ k) ^ 256 < (p2n f + 1) ^ 256 := calc
    (2 ^ k) ^ 256 = 2 ^ (k * 256) := (Nat.pow_mul ..).symm
    _ ≤ 2 ^ (3840 - f) := Nat.pow_le_pow_right Nat.two_pos (Nat.le_sub_of_add_le hk)
    _ < (p2n f + 1) ^ 256 := (p2n_isFloorOfPowerOfTwo f hf).2
  exact Nat.lt_succ_iff.1 (lt_of_pow_lt_pow_left₀ 256 (Nat.zero_le _) hpow)

/-- One octave of the power takes it from 1 down to one half, by interpolation between entries of the ROM (R65). -/
theorem half_le_pow2negQ15 {x : Nat} (hx : x ≤ 65536) : 16384 ≤ pow2negQ15 x := by
  rcases hx.eq_or_lt with rfl | hlt
  · have hvalue : pow2negQ15 65536 = p2n 0 / 2 := by
      simp only [pow2negQ15, Nat.reduceDiv, Nat.reduceMod, Nat.mul_zero, Nat.zero_div, Nat.sub_zero, Nat.pow_one,
        if_pos (by decide : 1 < 16)]
    have hentry : 2 ^ 15 ≤ p2n 0 := two_pow_le_p2n (by decide) (by decide)
    omega
  · have hoctave : x / 65536 = 0 := Nat.div_eq_of_lt hlt
    have hentry : 2 ^ 14 ≤ p2n (x / 256 % 256 + 1) := two_pow_le_p2n (by omega) (by omega)
    have hstep : p2n (x / 256 % 256 + 1) < p2n (x / 256 % 256) := p2n_succ_lt (by omega)
    have hinterp : (p2n (x / 256 % 256) - p2n (x / 256 % 256 + 1)) * (x % 256) / 256 ≤
        p2n (x / 256 % 256) - p2n (x / 256 % 256 + 1) :=
      Nat.div_le_of_le_mul (by rw [Nat.mul_comm]; exact Nat.mul_le_mul_right _ (Nat.mod_lt _ (by decide)).le)
    simp only [pow2negQ15, hoctave, pow_zero, Nat.div_one, if_pos (by decide : (0 : Nat) < 16)]
    omega

/-- The recompute step gives the derived registers of the tunables; in their ranges each of its subtractions is exact. -/
theorem grainRecompute_derived {gc : GrainConfig} {u : Grain} (hcycle : 0 < gc.cycle) (hmix : u.mix ≤ 32768) :
    GrainDerived gc (grainRecompute gc u) := by
  have hprq : 16384 ≤ (grainRecompute gc u).prq := half_le_pow2negQ15 (Nat.sub_le _ _)
  refine ⟨u.shift * 65536 / 1200, stepsDone (grainRecompute gc u).dy gc.cycle gc.blend, ?_, ?_, rfl, ?_, rfl, rfl, rfl,
    rfl, rfl, ?_, ?_⟩
  · exact_mod_cast isFloor_div (u.shift * 65536) (by decide)
  · have h := isFloor_div (2 * gc.blend * (grainRecompute gc u).dy + gc.cycle - 1) (b := 2 * gc.cycle) (by omega)
    rw [Nat.cast_sub (by omega)] at h
    exact_mod_cast h
  · have h := isFloor_div (((grainRecompute gc u).prq - 16384) * gc.cycle + 8192) (b := 16384) (by decide)
    push_cast [hprq] at h
    exact h
  · have h := isFloor_div (u.gain * (32768 - u.mix)) (b := 32768) (by decide)
    push_cast [hmix] at h
    exact h
  · exact_mod_cast isFloor_div (u.gain * u.mix) (by decide)

/-- The recompute step writes the derived registers only. -/
theorem grainRecompute_eq_withDerived (gc : GrainConfig) (u : Grain) :
    grainRecompute gc u = withDerived u (grainRecompute gc u) := rfl

theorem grainCycleLoad_atCycleStart (u : Grain) : AtCycleStart (grainCycleLoad u) := ⟨rfl, rfl, rfl, rfl, rfl, rfl⟩

/-! INIT and SET (R84 to R87). -/

/-- Settles O31: the new unit is a cycle load after the recompute step. -/
theorem grainInitSetsDefaults : Obligations.GrainInitSetsDefaults := by
  intro g fs s hlegal
  obtain ⟨hcycle, -⟩ := grainConfig_legal hlegal g
  obtain ⟨-, -, -, -, -, -, hmix, -⟩ := hlegal
  refine ⟨_, (exec_grainInit g fs s).trans (answer_eq_replied 0 _), rfl, rfl, rfl, rfl, rfl, rfl, ?_, ?_⟩
  · exact grainRecompute_derived (u := { s.grain g with mix := s.cfg.mixDef, shift := _, gain := _ }) hcycle hmix
  · exact grainCycleLoad_atCycleStart _

/-- What every SET of a grain unit does, for the unit `u` with the stored operand. -/
theorem grainSet_recomputes {s : State} {g : GrainId} {u : Grain} (hlegal : s.cfg.Legal) (hmix : u.mix ≤ 32768) :
    ∃ v, answer 0 (s.setGrain g (grainRecompute (s.cfg.grain g) u)) = .next (replied 0 (s.setGrain g v)) ∧
      GrainDerived (s.cfg.grain g) v ∧ v = withDerived u v :=
  ⟨_, answer_eq_replied 0 _, grainRecompute_derived (grainConfig_legal hlegal g).1 hmix,
    grainRecompute_eq_withDerived _ u⟩

/-- Settles O32: each SET stores its operand and recomputes. -/
theorem grainSettersRecompute : Obligations.GrainSettersRecompute := by
  intro g v s hinv hinit
  have hmix : (s.grain g).mix ≤ 32768 := (hinv.grain g hinit).mix
  rw [exec_grainSetShift, exec_grainSetMix, exec_grainSetGain, grainSetShift, grainSetMix, grainSetGain,
    whenInited_of hinit, whenInited_of hinit, whenInited_of hinit]
  exact ⟨grainSet_recomputes hinv.legal hmix, grainSet_recomputes hinv.legal (clamped_le (by decide) v),
    grainSet_recomputes hinv.legal hmix⟩

/-! GET, SWITCH and PEEK (R88, R89, R93). -/

/-- The registers that PEEK can name, as the values of the table of R55. -/
theorem grainRegisters_eq_map (u : Grain) :
    grainRegisters u = (List.range 21).map fun k => BitVec.ofInt 32 (grainRegister u k) := by
  have hunsigned : ∀ v : Nat, unsignedValue v = BitVec.ofInt 32 v := fun v => (BitVec.ofInt_natCast 32 v).symm
  have hbit : ∀ b : Bool, bitValue b = BitVec.ofInt 32 (if b then 1 else 0) := by decide
  simp only [grainRegisters, hunsigned, hbit]
  rfl

theorem grainRegisters_getElem? (u : Grain) {k : Nat} (hk : k < 21) :
    (grainRegisters u)[k]? = some (BitVec.ofInt 32 (grainRegister u k)) := by
  rw [grainRegisters_eq_map, List.getElem?_map, List.getElem?_range hk, Option.map_some]

/-- The tunables are the registers 3 to 5 of the PEEK table. -/
theorem grainParams_getElem? (u : Grain) {k : Nat} (hk : k < 3) :
    (grainParams u)[k]? = some (BitVec.ofInt 32 (grainRegister u (3 + k))) := by
  have hparams : grainParams u = ((grainRegisters u).drop 3).take 3 := rfl
  rw [hparams, List.getElem?_take_of_lt hk, List.getElem?_drop, grainRegisters_getElem? u (by omega)]

/-- Settles O33: GET and PEEK read the register lists, SWITCH writes one bit. -/
theorem grainGetSwitchAndPeekAnswer : Obligations.GrainGetSwitchAndPeekAnswer := by
  intro g s hinit
  refine ⟨fun sel hsel => ?_, fun on => ?_, fun sel hsel => ?_⟩
  · rw [exec_grainGet, grainGet, hinit, readRegister_of_getElem? s (grainParams_getElem? _ hsel)]
  · rw [exec_grainSwitch, grainSwitch, whenInited_of hinit, answer_eq_replied]
  · rw [exec_grainPeek, grainPeek, hinit, readRegister_of_getElem? s (grainRegisters_getElem? _ hsel)]

end Sys2Proof.Laws
end

section
/-! PROC of the grain units, one tick (R90 to R92, R96). -/

namespace Sys2Proof.Laws

open Sys2Proof.Machine Sys2Proof.Claims

/-! The crossfade (R90, R91, R96). -/

/-- The two laws of the crossfade, with the library's truncating division. -/
theorem crossfade_linear {gc : GrainConfig} (hxf : gc.xf = .linear) (cfg : Config) (i : Nat) (t1 t2 : Int) :
    crossfade cfg gc i t1 t2 = (i * t1 + ((gc.blend : Int) - i) * t2).tdiv gc.blend := by
  cases gc
  cases hxf
  exact tdiv_eq_int_tdiv _ _

theorem crossfade_eqPower {gc : GrainConfig} (hxf : gc.xf = .eqPower) (cfg : Config) (i : Nat) (t1 t2 : Int) :
    crossfade cfg gc i t1 t2 =
      (cfg.sin (i * 256 / gc.blend) * t1 + cfg.sin (256 - i * 256 / gc.blend) * t2).tdiv 32768 := by
  cases gc
  cases hxf
  exact tq15_eq_int_tdiv _

/-- A truncated quotient lies between two bounds when the dividend does between their multiples. -/
theorem tdiv_mem_bounds {a b lo hi : Int} (hb : 0 < b) (hlo : b * lo ≤ a) (hhi : a ≤ b * hi) :
    lo ≤ a.tdiv b ∧ a.tdiv b ≤ hi := by
  have h1 := Int.tdiv_le_tdiv hb hlo
  have h2 := Int.tdiv_le_tdiv hb hhi
  rw [Int.mul_tdiv_cancel_left _ hb.ne'] at h1 h2
  exact ⟨h1, h2⟩

/-- The weights are not negative and sum to `B`, so the linear crossfade lies between its taps (R96). -/
theorem crossfade_linear_between {gc : GrainConfig} {i : Nat} (hxf : gc.xf = .linear) (hi : i < gc.blend) (cfg : Config)
    (t1 t2 : Int) : min t1 t2 ≤ crossfade cfg gc i t1 t2 ∧ crossfade cfg gc i t1 t2 ≤ max t1 t2 := by
  have hweight1 : (0 : Int) ≤ i := Int.natCast_nonneg i
  have hweight2 : (0 : Int) ≤ (gc.blend : Int) - i := by omega
  rw [crossfade_linear hxf]
  apply tdiv_mem_bounds (by omega)
  · calc (gc.blend : Int) * min t1 t2 = i * min t1 t2 + ((gc.blend : Int) - i) * min t1 t2 := by ring
      _ ≤ i * t1 + ((gc.blend : Int) - i) * t2 :=
          Int.add_le_add (Int.mul_le_mul_of_nonneg_left (min_le_left ..) hweight1)
            (Int.mul_le_mul_of_nonneg_left (min_le_right ..) hweight2)
  · calc i * t1 + ((gc.blend : Int) - i) * t2 ≤ i * max t1 t2 + ((gc.blend : Int) - i) * max t1 t2 :=
          Int.add_le_add (Int.mul_le_mul_of_nonneg_left (le_max_left ..) hweight1)
            (Int.mul_le_mul_of_nonneg_left (le_max_right ..) hweight2)
      _ = gc.blend * max t1 t2 := by ring

/-- Settles O39: equal taps leave the output no room between them. -/
theorem linearCrossfadeConservesWeight : Obligations.LinearCrossfadeConservesWeight := by
  intro cfg gc i hxf hi
  have hbetween := crossfade_linear_between hxf hi cfg
  refine ⟨Nat.add_sub_cancel' hi.le, fun t => ?_, hbetween⟩
  have h := hbetween t t
  rw [min_self, max_self] at h
  exact le_antisymm h.2 h.1

/-! The narrowing of the mix (R10, R92). -/

theorem wrap16_eq_emod (y : Int) : wrap16 y = (y + 32768) % 65536 - 32768 := by
  rw [wrap16, BitVec.toInt_ofInt, Int.bmod_def]
  omega

theorem noteNarrowing_eq (y out : Int) (status : BitVec 32) :
    noteNarrowing y out status = if out = y then status else status ||| 0x100#32 := rfl

/-! PROC. -/

/-- The grain output: the crossfade of the taps inside the blend region, the main tap outside it (R90). -/
def grainOutput (cfg : Config) (gc : GrainConfig) (i : Nat) (t1 t2 : Int) : Int :=
  if i < gc.blend then crossfade cfg gc i t1 t2 else t1

/-- PROC is the two checks and then, with the cursor and both taps inside HB, the end of PROC with the grain output of
those taps (R90). -/
theorem exec_grainProc_eq_checks (g : GrainId) (c : BitVec 16) (x : Word32) (s : State) :
    ∃ k, exec (Instr.grainProc c x g) s =
        whenInited ((s.grain g).inited && s.shb.inited) s (whenOperand (cursorOk s c && sampleOk x) s k) ∧
      (c.toNat < s.cfg.n → (s.grain g).k1 < s.cfg.n → (s.grain g).k2 < s.cfg.n →
        k = grainFinish g x.toInt
          (grainOutput s.cfg (s.cfg.grain g) (s.grain g).i (tap s c (s.grain g).k1) (tap s c (s.grain g).k2)) s) := by
  refine ⟨_, exec_grainProc g c x s, fun hc hk1 hk2 => ?_⟩
  rw [withTap_eq_tap hc hk1, grainOutput]
  split
  · exact withTap_eq_tap hc hk2 _
  · rfl

/-- PROC before INIT of the unit or of SHB (R90). -/
theorem exec_grainProc_of_not_inited {g : GrainId} {s : State} (h : (s.grain g).inited = false ∨ s.shb.inited = false)
    (c : BitVec 16) (x : Word32) : exec (Instr.grainProc c x g) s = .next (faulted 5 s) := by
  obtain ⟨k, hexec, -⟩ := exec_grainProc_eq_checks g c x s
  rw [hexec, Bool.and_eq_false_iff.2 h]
  exact takeFault_eq_faulted .eNoInit s

section
variable {g : GrainId} {s : State} {c : BitVec 16} {x : Word32} (hinit : (s.grain g).inited = true)
  (hshb : s.shb.inited = true)
include hinit hshb

/-- PROC with an illegal operand (R90). -/
theorem exec_grainProc_of_bad_operand (h : s.cfg.n ≤ c.toNat ∨ ¬IsSample x) :
    exec (Instr.grainProc c x g) s = .next (faulted 6 s) := by
  have hbad : (cursorOk s c && sampleOk x) = false := by
    rw [Bool.eq_false_iff, ne_eq, Bool.and_eq_true_iff, cursorOk_iff, sampleOk_iff, not_and_or, Nat.not_lt]
    exact h
  obtain ⟨k, hexec, -⟩ := exec_grainProc_eq_checks g c x s
  rw [hexec, whenInited_of (Bool.and_eq_true_iff.2 ⟨hinit, hshb⟩), hbad]
  exact takeFault_eq_faulted .eOperand s

/-- PROC with legal operands and both taps inside HB: the grain output goes to the mix (R90). -/
theorem exec_grainProc_of_taps (hc : c.toNat < s.cfg.n) (hx : IsSample x) (hk1 : (s.grain g).k1 < s.cfg.n)
    (hk2 : (s.grain g).k2 < s.cfg.n) :
    exec (Instr.grainProc c x g) s =
      grainFinish g x.toInt
        (grainOutput s.cfg (s.cfg.grain g) (s.grain g).i (tap s c (s.grain g).k1) (tap s c (s.grain g).k2)) s := by
  obtain ⟨k, hexec, hk⟩ := exec_grainProc_eq_checks g c x s
  have hoperands : (cursorOk s c && sampleOk x) = true :=
    Bool.and_eq_true_iff.2 ⟨cursorOk_iff.2 hc, sampleOk_iff.2 hx⟩
  rw [hexec, whenInited_of (Bool.and_eq_true_iff.2 ⟨hinit, hshb⟩), hoperands, whenOperand_true, hk hc hk1 hk2]

end

/-- One tick of the phase: the step of the taps and the accumulator, and the cycle load at the end of the cycle (R90). -/
theorem grainAdvance_eq (gc : GrainConfig) (u : Grain) :
    grainAdvance gc u =
      if u.i + 1 = gc.cycle then
        { grainStep gc u with i := 0, k1 := u.k1init, k2 := u.k2init, d := u.d1, ad2 := u.d2, ad3 := u.d3 }
      else grainStep gc u := by
  obtain ⟨k1, k2, d, hstep⟩ := grainStep_frame gc u
  rw [grainAdvance, hstep]
  rfl

/-- The end of PROC, as one equation. -/
theorem grainFinish_eq (g : GrainId) (x gr : Int) (s : State) :
    grainFinish g x gr s =
      let y := ((s.grain g).dryw * x + (s.grain g).wetw * gr).tdiv 32768
      let out := (y + 32768) % 65536 - 32768
      .next (replied (BitVec.ofInt 32 out)
        ({ s with status := if out = y then s.status else s.status ||| 0x100#32 }.setGrain g
          (grainAdvance (s.cfg.grain g) (s.grain g)))) := by
  rw [grainFinish, answer_eq_replied, wrap16_eq_emod, noteNarrowing_eq, grainMix, tq15_eq_int_tdiv, signedValue]

/-- Settles O34: the two faults, and the tick with both taps inside HB. -/
theorem grainProcIsOneTick : Obligations.GrainProcIsOneTick := by
  intro g c x s
  refine ⟨fun h => exec_grainProc_of_not_inited h c x, exec_grainProc_of_bad_operand, ?_⟩
  intro hinv hinit hshb hc hx u gc t1 t2 j gr y out v w
  obtain ⟨-, -, -, -, -, hk1, hk2⟩ := grainTapsStayInBounds g s hinv hinit
  have hgr : grainOutput s.cfg gc u.i t1 t2 = gr := by
    refine ite_congr rfl (fun _ => ?_) fun _ => rfl
    split
    next hxf => exact crossfade_linear hxf s.cfg u.i t1 t2
    next hxf => exact crossfade_eqPower hxf s.cfg u.i t1 t2
  have hadvance : grainAdvance gc u = w := grainAdvance_eq gc u
  rw [exec_grainProc_of_taps hinit hshb hc hx (by omega) (by omega), hgr, grainFinish_eq, hadvance]

end Sys2Proof.Laws
end

section
/-! The commands of unit FBE (R98 to R107). -/

namespace Sys2Proof.Laws

open Sys2Proof.Machine Sys2Proof.Claims

/-! What both echo units share: the DelayTap (R76, R77) and the operands of PROC (R58, R59). -/

theorem clampNat_zero_of_le {v hi : Nat} (h : v ≤ hi) : clampNat v 0 hi = v := by
  rw [clampNat, Nat.min_eq_right h, Nat.zero_max]

theorem tapOfMs_eq_tapFor (cfg : Config) (fs ms : Nat) : tapOfMs cfg fs ms = tapFor cfg fs ms := rfl

/-- The check of the operands of an echo PROC, cursor and sample together. -/
theorem cursorOk_and_sampleOk_iff {s : State} {c : BitVec 16} {x : Word32} :
    (cursorOk s c && sampleOk x) = true ↔ c.toNat < s.cfg.n ∧ IsSample x := by
  rw [Bool.and_eq_true_iff, cursorOk_iff, sampleOk_iff]

theorem cursorOk_and_sampleOk_eq_false_iff {s : State} {c : BitVec 16} {x : Word32} :
    (cursorOk s c && sampleOk x) = false ↔ s.cfg.n ≤ c.toNat ∨ ¬IsSample x := by
  rw [Bool.eq_false_iff, ne_eq, cursorOk_and_sampleOk_iff, not_and_or, Nat.not_lt]

/-! The recompute step (R98). -/

/-- `SCALE` is the product of two floor divisions of the root. -/
theorem fbeRecompute_derived (cfg : Config) (u : Fbe) : FbeDerived cfg (fbeRecompute cfg u) := by
  refine ⟨Nat.sqrt (u.gain * u.gain * (2 ^ 30 - u.decay * u.decay)) / 32768, ?_, ?_⟩
  · exact_mod_cast isFloor_div _ (by decide)
  · rw [fbeRecompute, isqrt_eq_sqrt]
    exact_mod_cast isFloor_div _ (by decide)

/-- The recompute step writes `SCALE` only. -/
theorem fbeRecompute_eq_withScale (cfg : Config) (u : Fbe) :
    fbeRecompute cfg u = { u with scale := (fbeRecompute cfg u).scale } := rfl

/-! INIT and SET (R99 to R103). -/

/-- Settles O40: the recompute step after the stores, with the default delay in its own range. -/
theorem feedbackEchoInitSetsDefaults : Obligations.FeedbackEchoInitSetsDefaults := by
  intro fs s hlegal
  have hms : s.cfg.fbDefMs ≤ s.cfg.msMax := by
    obtain ⟨-, -, -, -, -, -, -, -, -, -, -, -, -, -, -, -, hms, -⟩ := hlegal
    exact hms
  have hclamp : clampNat s.cfg.fbDefMs 0 s.cfg.msMax = s.cfg.fbDefMs := clampNat_zero_of_le hms
  refine ⟨_, answer_eq_replied 0 _, rfl, rfl, rfl, hclamp, ?_, rfl, rfl, fbeRecompute_derived s.cfg _⟩
  exact congrArg (tapFor s.cfg _) hclamp

/-- What every SET of FBE does, for the unit `u` with the stored operand. -/
theorem fbeSet_recomputes (u : Fbe) (s : State) :
    ∃ v, fbeSet u s = .next (replied 0 { s with fbe := v }) ∧ FbeDerived s.cfg v ∧
      v = { u with scale := v.scale } :=
  ⟨fbeRecompute s.cfg u, answer_eq_replied 0 _, fbeRecompute_derived s.cfg u, fbeRecompute_eq_withScale s.cfg u⟩

section
variable {s : State} (hinit : s.fbe.inited = true) (v : Word32)
include hinit

/-- FBE.SET.DELAY_MS of an initialised unit stores the delay and its tap (R100). -/
theorem exec_fbeSetDelayMs :
    exec (.fbeSetDelayMs v) s =
      fbeSet { s.fbe with ms := clamped v 0 s.cfg.msMax,
                          off := tapFor s.cfg s.fbe.fs (clamped v 0 s.cfg.msMax) } s :=
  whenInited_of hinit s _

/-- FBE.SET.DECAY of an initialised unit (R101). -/
theorem exec_fbeSetDecay :
    exec (.fbeSetDecay v) s = fbeSet { s.fbe with decay := clamped v 0 s.cfg.decayFbMax } s :=
  whenInited_of hinit s _

/-- FBE.SET.GAIN of an initialised unit (R102). -/
theorem exec_fbeSetGain : exec (.fbeSetGain v) s = fbeSet { s.fbe with gain := clamped v 0 32768 } s :=
  whenInited_of hinit s _

/-- FBE.SET.DELAY_SMP of an initialised unit stores the tap and its delay, for a rate that is not 0 (R103). -/
theorem exec_fbeSetDelaySmp (hfs : s.fbe.fs ≠ 0) :
    exec (.fbeSetDelaySmp v) s =
      fbeSet { s.fbe with off := clamped v 10 (s.cfg.n - 1),
                          ms := msOfTap s.cfg s.fbe.fs (clamped v 10 (s.cfg.n - 1)) } s :=
  (whenInited_of hinit s _).trans (withDivisor_of_ne hfs _)

end

/-- Settles O41: each SET is the store and then the recompute step; the invariant gives DELAY_SMP its divisor. -/
theorem feedbackEchoSettersRecompute : Obligations.FeedbackEchoSettersRecompute := by
  intro v s hinv hinit
  have hfs : 0 < s.fbe.fs := by
    obtain ⟨-, -, -, -, -, -, -, -, -, -, -, -, -, hfsMin, -⟩ := hinv.legal
    exact hfsMin.trans (hinv.fbe hinit).fs.1
  rw [exec_fbeSetDelayMs hinit, exec_fbeSetDecay hinit, exec_fbeSetGain hinit, exec_fbeSetDelaySmp hinit v hfs.ne']
  refine ⟨fbeSet_recomputes _ s, fbeSet_recomputes _ s, fbeSet_recomputes _ s, ?_⟩
  obtain ⟨u, hexec, hderived, hframe⟩ := fbeSet_recomputes
    { s.fbe with off := clamped v 10 (s.cfg.n - 1), ms := msOfTap s.cfg s.fbe.fs (clamped v 10 (s.cfg.n - 1)) } s
  exact ⟨u, _, hexec, hderived, isFloor_div _ hfs, hframe⟩

/-! PROC (R106). -/

/-- Settles O43: the two checks and then, with the tap inside HB, the answer. -/
theorem feedbackEchoProcAnswers : Obligations.FeedbackEchoProcAnswers := by
  intro c x s
  have hexec : exec (.fbeProc c x) s = execFbeProc c x s := rfl
  rw [hexec, execFbeProc]
  refine ⟨fun h => ?_, fun hinit hshb hbad => ?_, fun hinit hshb hoff hc hx => ?_⟩
  · rw [Bool.and_eq_false_iff.2 h]
    exact takeFault_eq_faulted .eNoInit s
  · rw [whenInited_of (Bool.and_eq_true_iff.2 ⟨hinit, hshb⟩), cursorOk_and_sampleOk_eq_false_iff.2 hbad]
    exact takeFault_eq_faulted .eOperand s
  · rw [whenInited_of (Bool.and_eq_true_iff.2 ⟨hinit, hshb⟩), cursorOk_and_sampleOk_iff.2 ⟨hc, hx⟩,
      whenOperand_true, withTap_eq_tap hc hoff, answer_eq_replied, fbeOutput, tq15_eq_int_tdiv]
    rfl

/-! GET, SWITCH and PEEK (R104, R105, R107). -/

/-- The registers that PEEK can name, as the values of the table of R55. -/
theorem fbeRegisters_eq_map (u : Fbe) :
    fbeRegisters u = (List.range 8).map fun k => BitVec.ofNat 32 (fbeRegister u k) := by
  have hbit : ∀ b : Bool, bitValue b = BitVec.ofNat 32 (if b then 1 else 0) := by decide
  simp only [fbeRegisters, hbit]
  rfl

theorem fbeRegisters_getElem? (u : Fbe) {k : Nat} (hk : k < 8) :
    (fbeRegisters u)[k]? = some (BitVec.ofNat 32 (fbeRegister u k)) := by
  rw [fbeRegisters_eq_map, List.getElem?_map, List.getElem?_range hk, Option.map_some]

/-- The parameters that GET can name, as the values of the table of R54. -/
theorem fbeParams_getElem? (u : Fbe) {k : Nat} (hk : k < 4) :
    (fbeParams u)[k]? = some (BitVec.ofNat 32 ([u.ms, u.decay, u.gain, u.off].getD k 0)) := by
  have hparams : fbeParams u = [u.ms, u.decay, u.gain, u.off].map (BitVec.ofNat 32) := rfl
  have hlength : k < [u.ms, u.decay, u.gain, u.off].length := hk
  rw [hparams, List.getElem?_map, List.getElem?_eq_getElem hlength, Option.map_some, List.getElem_eq_getD 0]

/-- Settles O42: GET and PEEK read the register lists, SWITCH writes one bit. -/
theorem feedbackEchoGetSwitchAndPeekAnswer : Obligations.FeedbackEchoGetSwitchAndPeekAnswer := by
  intro s hinit
  refine ⟨fun sel hsel => ?_, fun on => ?_, fun sel hsel => ?_⟩
  · change execFbeGet sel s = _
    rw [execFbeGet, hinit, readRegister_of_getElem? s (fbeParams_getElem? _ hsel)]
  · change execFbeSwitch on s = _
    rw [execFbeSwitch, whenInited_of hinit, answer_eq_replied]
  · change execFbePeek sel s = _
    rw [execFbePeek, hinit, readRegister_of_getElem? s (fbeRegisters_getElem? _ hsel)]

end Sys2Proof.Laws
end

section
/-! The commands of unit FFE (R110 to R120). -/

namespace Sys2Proof.Laws

open Sys2Proof.Machine Sys2Proof.Claims

/-! The recompute step (R110). -/

theorem decayPower_eq_q15Power (r n : Nat) : decayPower r n = q15Power r n := by
  induction n with
  | zero => rfl
  | succ n ih => rw [decayPower, ih, q15Power]

theorem powerSum_eq_sum (r n : Nat) :
    powerSum r n = ((List.range n).map fun k => q15Power r k * q15Power r k).sum := by
  induction n with
  | zero => rfl
  | succ n ih => rw [powerSum, ih, decayPower_eq_q15Power, List.sum_range_succ]

/-- The power number 0 alone makes the sum positive, so the divisor of `SCALE` is not 0. -/
theorem powerSum_pos (r : Nat) {n : Nat} (hn : 0 < n) : 0 < powerSum r n := by
  induction n, hn using Nat.le_induction with
  | base => exact Nat.add_pos_right 0 (by decide : 0 < 32768 * 32768)
  | succ n _ ih => exact Nat.add_pos_left ih _

theorem octet_get_ofFn (f : Nat → Nat) {k : Nat} (hk : k < 8) : (Octet.ofFn f).get k = f k := by
  have hlist : (Octet.ofFn f).toList = (List.range 8).map f := rfl
  rw [Octet.get, hlist, List.getD_eq_getElem?_getD, List.getElem?_map, List.getElem?_range hk, Option.map_some,
    Option.getD_some]

/-- `SCALE` and the weights in use are floor divisions; the weights from `REPEATS` on are 0. -/
theorem ffeRecompute_derived {u : Ffe} (hrepeats : 0 < u.repeats) : FfeDerived (ffeRecompute u) := by
  have hroot : 0 < Nat.sqrt (powerSum u.decay u.repeats) := Nat.sqrt_pos.2 (powerSum_pos _ hrepeats)
  have hscale : (ffeRecompute u).scale = u.gain * 32768 / Nat.sqrt (powerSum u.decay u.repeats) := by
    rw [ffeRecompute, isqrt_eq_sqrt]
  refine ⟨?_, fun k hk => ?_⟩
  · rw [hscale]
    simp only [ffeRecompute_repeats, ffeRecompute_decay, ffeRecompute_gain, ← powerSum_eq_sum]
    exact_mod_cast isFloor_div _ hroot
  · have hweight : (ffeRecompute u).w.get k =
        if k < u.repeats then (ffeRecompute u).scale * q15Power u.decay k / 32768 else 0 := by
      rw [← decayPower_eq_q15Power]
      exact octet_get_ofFn _ hk
    refine ⟨fun (hlt : k < u.repeats) => ?_, fun hle => hweight.trans (if_neg (Nat.not_lt.2 hle))⟩
    rw [hweight, if_pos hlt]
    exact_mod_cast isFloor_div _ (by decide)

/-- The recompute step writes `SCALE` and `W` only. -/
theorem ffeRecompute_eq_withScale (u : Ffe) :
    ffeRecompute u = { u with scale := (ffeRecompute u).scale, w := (ffeRecompute u).w } := rfl

/-! INIT and SET (R111 to R116). -/

/-- Settles O45: the recompute step after the stores, with the default delay in range and at least one repeat. -/
theorem feedforwardEchoInitSetsDefaults : Obligations.FeedforwardEchoInitSetsDefaults := by
  intro fs s hlegal
  obtain ⟨hms, hrepeats⟩ : s.cfg.ffDefMs ≤ s.cfg.msMax ∧ 0 < s.cfg.ffDefRepeats := by
    obtain ⟨-, -, -, -, -, -, -, -, -, -, -, -, -, -, -, -, -, -, -, hms, hrepeats, -⟩ := hlegal
    exact ⟨hms, hrepeats⟩
  have hclamp : clampNat s.cfg.ffDefMs 0 s.cfg.msMax = s.cfg.ffDefMs := clampNat_zero_of_le hms
  refine ⟨_, answer_eq_replied 0 _, rfl, rfl, rfl, hclamp, ?_, rfl, rfl, rfl, ffeRecompute_derived hrepeats⟩
  exact congrArg (tapFor s.cfg _) hclamp

/-- What every SET of FFE does, for the unit `u` with the stored operand. -/
theorem ffeSet_recomputes (u : Ffe) (s : State) (hrepeats : 0 < u.repeats) :
    ∃ v, ffeSet u s = .next (replied 0 { s with ffe := v }) ∧ FfeDerived v ∧
      v = { u with scale := v.scale, w := v.w } :=
  ⟨ffeRecompute u, answer_eq_replied 0 _, ffeRecompute_derived hrepeats, ffeRecompute_eq_withScale u⟩

theorem le_clamped (lo hi : Nat) (v : Word32) : lo ≤ clamped v lo hi := by
  unfold clamped; omega

section
variable {s : State} (hinit : s.ffe.inited = true) (v : Word32)
include hinit

/-- FFE.SET.DELAY_MS of an initialised unit stores the delay and its tap (R112). -/
theorem exec_ffeSetDelayMs :
    exec (.ffeSetDelayMs v) s =
      ffeSet { s.ffe with ms := clamped v 0 s.cfg.msMax,
                          off := tapFor s.cfg s.ffe.fs (clamped v 0 s.cfg.msMax) } s :=
  whenInited_of hinit s _

/-- FFE.SET.REPEATS of an initialised unit (R113). -/
theorem exec_ffeSetRepeats : exec (.ffeSetRepeats v) s = ffeSet { s.ffe with repeats := clamped v 1 8 } s :=
  whenInited_of hinit s _

/-- FFE.SET.DECAY of an initialised unit (R114). -/
theorem exec_ffeSetDecay : exec (.ffeSetDecay v) s = ffeSet { s.ffe with decay := clamped v 0 32768 } s :=
  whenInited_of hinit s _

/-- FFE.SET.GAIN of an initialised unit (R115). -/
theorem exec_ffeSetGain : exec (.ffeSetGain v) s = ffeSet { s.ffe with gain := clamped v 0 32768 } s :=
  whenInited_of hinit s _

/-- FFE.SET.DELAY_SMP of an initialised unit stores the tap and its delay, for a rate that is not 0 (R116). -/
theorem exec_ffeSetDelaySmp (hfs : s.ffe.fs ≠ 0) :
    exec (.ffeSetDelaySmp v) s =
      ffeSet { s.ffe with off := clamped v 10 (s.cfg.n - 1),
                          ms := msOfTap s.cfg s.ffe.fs (clamped v 10 (s.cfg.n - 1)) } s :=
  (whenInited_of hinit s _).trans (withDivisor_of_ne hfs _)

end

/-- Settles O46: each SET is the store and then the recompute step. The invariant gives the recompute step its divisor,
and SET.REPEATS by its lower limit 1; it also gives DELAY_SMP its divisor. -/
theorem feedforwardEchoSettersRecompute : Obligations.FeedforwardEchoSettersRecompute := by
  intro v s hinv hinit
  have hgood := hinv.ffe hinit
  have hrepeats : 0 < s.ffe.repeats := hgood.repeats.1
  have hfs : 0 < s.ffe.fs := by
    obtain ⟨-, -, -, -, -, -, -, -, -, -, -, -, -, hfsMin, -⟩ := hinv.legal
    exact hfsMin.trans hgood.fs.1
  rw [exec_ffeSetDelayMs hinit, exec_ffeSetRepeats hinit, exec_ffeSetDecay hinit, exec_ffeSetGain hinit,
    exec_ffeSetDelaySmp hinit v hfs.ne']
  refine ⟨ffeSet_recomputes _ s ?_, ffeSet_recomputes _ s ?_, ffeSet_recomputes _ s ?_, ffeSet_recomputes _ s ?_, ?_⟩
  · exact hrepeats
  · exact le_clamped 1 8 v
  · exact hrepeats
  · exact hrepeats
  · obtain ⟨u, hexec, hderived, hframe⟩ := ffeSet_recomputes
      { s.ffe with off := clamped v 10 (s.cfg.n - 1), ms := msOfTap s.cfg s.ffe.fs (clamped v 10 (s.cfg.n - 1)) }
      s hrepeats
    exact ⟨u, _, hexec, hderived, isFloor_div _ hfs, hframe⟩

/-! PROC (R119). -/

/-- Term `n` of the sum: the sample for `n = 0`, else the cell `n · OFF` behind the cursor, weighted by `W[n]`. -/
def ffeTerm (s : State) (c : BitVec 16) (x : Word32) (n : Nat) : Int :=
  s.ffe.w.get n * if n = 0 then x.toInt else tap s c (n * s.ffe.off)

/-- The first `n` terms of the sum. -/
def ffeSum (s : State) (c : BitVec 16) (x : Word32) (n : Nat) : Int := ((List.range n).map (ffeTerm s c x)).sum

theorem ffeSum_one (s : State) (c : BitVec 16) (x : Word32) : ffeSum s c x 1 = s.ffe.w.get 0 * x.toInt := by
  rw [ffeSum, List.sum_range_succ, List.range_zero, List.map_nil, List.sum_nil, zero_add, ffeTerm, if_pos rfl]

theorem ffeSum_succ (s : State) (c : BitVec 16) (x : Word32) (n : Nat) :
    ffeSum s c x (n + 1) = ffeSum s c x n + ffeTerm s c x n := List.sum_range_succ ..

/-- Stepping back by `o` once more from the index `n · o` behind the cursor. -/
theorem ring_eq_sub_succ_mul_emod {idx o n len : Nat} {c : Int} (hidx : (idx : Int) = (c - n * o) % len)
    (hlt : idx < len) (ho : o < len) : (ring idx o len : Int) = (c - (n + 1 : Nat) * o) % len := by
  rw [ring_eq_sub_emod hlt ho, hidx, Int.emod_sub_emod]
  congr 1
  push_cast
  ring

/-- The loop of R119: entered for tap `n + 1` at the index of tap `n` with the sum of the terms before, it goes on with
the sum of `count` terms more. -/
theorem ffeTaps_eq_ffeSum {s : State} {c : BitVec 16} (x : Word32) (hoff : s.ffe.off < s.cfg.n) (k : Int → Result)
    {count n idx : Nat} (hlt : idx < s.cfg.n) (hidx : (idx : Int) = ((c.toNat : Int) - n * s.ffe.off) % s.cfg.n) :
    ffeTaps s count (n + 1) idx (ffeSum s c x (n + 1)) k = k (ffeSum s c x (n + 1 + count)) := by
  induction count generalizing n idx with
  | zero => rfl
  | succ count ih =>
    have hring := ring_eq_sub_succ_mul_emod hidx hlt hoff
    have hterm : ffeTerm s c x (n + 1) =
        s.ffe.w.get (n + 1) * (s.shb.hb.read (ring idx s.ffe.off s.cfg.n)).toInt := by
      rw [ffeTerm, if_neg n.succ_ne_zero, tap, cellAt, Nat.cast_mul, ← hring, Int.toNat_natCast]
    rw [ffeTaps_succ hlt hoff, ← hterm, ← ffeSum_succ, ih (ring_lt hlt hoff) hring,
      Nat.add_right_comm (n + 1) 1 count, Nat.add_assoc (n + 1)]

/-- Settles O48: the two checks and then, with the tap inside HB and the cursor as the index of tap 0, the loop. -/
theorem feedforwardEchoProcAnswers : Obligations.FeedforwardEchoProcAnswers := by
  intro c x s
  have hexec : exec (.ffeProc c x) s = execFfeProc c x s := rfl
  rw [hexec, execFfeProc]
  refine ⟨fun h => ?_, fun hinit hshb hbad => ?_, fun hinv hinit hshb hc hx => ?_⟩
  · rw [Bool.and_eq_false_iff.2 h]
    exact takeFault_eq_faulted .eNoInit s
  · rw [whenInited_of (Bool.and_eq_true_iff.2 ⟨hinit, hshb⟩), cursorOk_and_sampleOk_eq_false_iff.2 hbad]
    exact takeFault_eq_faulted .eOperand s
  · have hgood := hinv.ffe hinit
    have hoff : s.ffe.off < s.cfg.n := by have := hgood.off.2; omega
    have hcursor : (c.toNat : Int) = ((c.toNat : Int) - (0 : Nat) * s.ffe.off) % s.cfg.n := by
      rw [Nat.cast_zero, zero_mul, sub_zero, Int.emod_eq_of_lt] <;> omega
    have hcount : 0 + 1 + (s.ffe.repeats - 1) = s.ffe.repeats := by have := hgood.repeats.1; omega
    rw [whenInited_of (Bool.and_eq_true_iff.2 ⟨hinit, hshb⟩), cursorOk_and_sampleOk_iff.2 ⟨hc, hx⟩,
      whenOperand_true, dataValue, ← ffeSum_one, ffeTaps_eq_ffeSum x hoff _ hc hcursor, hcount, answer_eq_replied,
      tq15_eq_int_tdiv]
    rfl

/-! GET, SWITCH and PEEK (R117, R118, R120). -/

/-- The parameters that GET can name, as the values of the table of R54. -/
theorem ffeParams_getElem? (u : Ffe) {k : Nat} (hk : k < 5) :
    (ffeParams u)[k]? = some (BitVec.ofNat 32 ([u.ms, u.repeats, u.decay, u.gain, u.off].getD k 0)) := by
  have hparams : ffeParams u = [u.ms, u.repeats, u.decay, u.gain, u.off].map (BitVec.ofNat 32) := rfl
  have hlength : k < [u.ms, u.repeats, u.decay, u.gain, u.off].length := hk
  rw [hparams, List.getElem?_map, List.getElem?_eq_getElem hlength, Option.map_some, List.getElem_eq_getD 0]

/-- The registers that PEEK can name, as the values of the table of R55. -/
theorem ffeRegisters_getElem? (u : Ffe) {k : Nat} (hk : k < 17) :
    (ffeRegisters u)[k]? = some (BitVec.ofNat 32 (ffeRegister u k)) := by
  have hbit : ∀ b : Bool, bitValue b = BitVec.ofNat 32 (if b then 1 else 0) := by decide
  have hregisters : ffeRegisters u = (List.range 17).map fun k => BitVec.ofNat 32 (ffeRegister u k) := by
    simp only [ffeRegisters, hbit]
    rfl
  rw [hregisters, List.getElem?_map, List.getElem?_range hk, Option.map_some]

/-- Settles O47: GET and PEEK read the register lists, SWITCH writes one bit. -/
theorem feedforwardEchoGetSwitchAndPeekAnswer : Obligations.FeedforwardEchoGetSwitchAndPeekAnswer := by
  intro s hinit
  refine ⟨fun sel hsel => ?_, fun on => ?_, fun sel hsel => ?_⟩
  · change execFfeGet sel s = _
    rw [execFfeGet, hinit, readRegister_of_getElem? s (ffeParams_getElem? _ hsel)]
  · change execFfeSwitch on s = _
    rw [execFfeSwitch, whenInited_of hinit, answer_eq_replied]
  · change execFfePeek sel s = _
    rw [execFfePeek, hinit, readRegister_of_getElem? s (ffeRegisters_getElem? _ hsel)]

end Sys2Proof.Laws
end

section
/-! The power of two primitive falls as its argument grows (R65): within an octave along the entries of the ROM, and
from one octave to the next because the last entry is half of the first. -/

namespace Sys2Proof.Laws

open Sys2Proof.Machine

/-- The value before the shift by octaves, at position `g` of an octave; `g = 65536` is the end of the octave. -/
def octaveValue (g : Nat) : Nat := p2n (g / 256) - (p2n (g / 256) - p2n (g / 256 + 1)) * (g % 256) / 256

theorem octaveValue_eq (g : Nat) : octaveValue g =
    p2n (g / 256) - (p2n (g / 256) - p2n (g / 256 + 1)) * (g % 256) / 256 := rfl

theorem pow2negQ15_eq_octaveValue (x : Nat) :
    pow2negQ15 x = if x / 65536 < 16 then octaveValue (x % 65536) / 2 ^ (x / 65536) else 0 := by
  have hentry : x % 65536 / 256 = x / 256 % 256 := by omega
  have hbetween : x % 65536 % 256 = x % 256 := by omega
  rw [octaveValue_eq, hentry, hbetween]
  rfl

theorem octaveValue_zero : octaveValue 0 = 2 * octaveValue 65536 := by decide

/-- The interpolation does not go below the next entry. -/
theorem p2n_succ_le_octaveValue {g : Nat} (hg : g < 65536) : p2n (g / 256 + 1) ≤ octaveValue g := by
  have hentries : p2n (g / 256 + 1) < p2n (g / 256) := p2n_succ_lt (by omega)
  have hinterp : (p2n (g / 256) - p2n (g / 256 + 1)) * (g % 256) / 256 ≤ p2n (g / 256) - p2n (g / 256 + 1) :=
    Nat.div_le_of_le_mul (by rw [Nat.mul_comm]; exact Nat.mul_le_mul_right _ (by omega))
  rw [octaveValue_eq]
  omega

theorem octaveValue_succ_le {g : Nat} (hg : g < 65536) : octaveValue (g + 1) ≤ octaveValue g := by
  by_cases hlast : g % 256 = 255
  · have hentry : (g + 1) / 256 = g / 256 + 1 := by omega
    have hnext : octaveValue (g + 1) ≤ p2n (g / 256 + 1) := by
      rw [octaveValue_eq, hentry]
      exact Nat.sub_le _ _
    exact hnext.trans (p2n_succ_le_octaveValue hg)
  · have hentry : (g + 1) / 256 = g / 256 := by omega
    have hbetween : (g + 1) % 256 = g % 256 + 1 := by omega
    rw [octaveValue_eq, octaveValue_eq, hentry, hbetween]
    exact Nat.sub_le_sub_left (Nat.div_le_div_right (Nat.mul_le_mul_left _ (Nat.le_succ _))) _

theorem pow2negQ15_succ_le (x : Nat) : pow2negQ15 (x + 1) ≤ pow2negQ15 x := by
  have hstep := octaveValue_succ_le (Nat.mod_lt x (by decide : 0 < 65536))
  rw [pow2negQ15_eq_octaveValue, pow2negQ15_eq_octaveValue]
  by_cases hend : x % 65536 = 65535
  · have hoctave : (x + 1) / 65536 = x / 65536 + 1 := by omega
    have hstart : (x + 1) % 65536 = 0 := by omega
    rw [hoctave, hstart, octaveValue_zero, pow_succ', Nat.mul_div_mul_left _ _ Nat.two_pos]
    rw [hend] at hstep ⊢
    split
    · rw [if_pos (by omega)]
      exact Nat.div_le_div_right hstep
    · exact Nat.zero_le _
  · have hoctave : (x + 1) / 65536 = x / 65536 := by omega
    have hnext : (x + 1) % 65536 = x % 65536 + 1 := by omega
    rw [hoctave, hnext]
    split
    · exact Nat.div_le_div_right hstep
    · exact Nat.le_refl 0

theorem pow2negQ15_antitone : Antitone pow2negQ15 := antitone_nat_of_succ_le pow2negQ15_succ_le

end Sys2Proof.Laws
end

section
/-! The commands of unit REV (R123 to R134). -/

namespace Sys2Proof.Laws

open Sys2Proof.Machine Sys2Proof.Claims

/-! The four places of a quad. -/

@[simp] theorem at4_all {α : Type} (a : α) (k : Fin 4) : at4 (Quad.all a) k = a := by
  match k with
  | 0 | 1 | 2 | 3 => rfl

@[simp] theorem at4_map {α β : Type} (f : α → β) (q : Quad α) (k : Fin 4) : at4 (q.map f) k = f (at4 q k) := by
  match k with
  | 0 | 1 | 2 | 3 => rfl

theorem at4_of_forall {α : Type} {q : Quad α} {P : α → Prop} (h : q.Forall P) (k : Fin 4) : P (at4 q k) := by
  obtain ⟨h0, h1, h2, h3⟩ := h
  match k with
  | 0 => exact h0
  | 1 => exact h1
  | 2 => exact h2
  | 3 => exact h3

theorem quad_eq_of_at4 {α : Type} {q : Quad α} {f : Fin 4 → α} (h : ∀ k, at4 q k = f k) :
    q = ⟨f 0, f 1, f 2, f 3⟩ := by
  rw [← h 0, ← h 1, ← h 2, ← h 3]
  rfl

/-! The recompute and clearing steps (R123, R124). -/

/-- A longer decay loses less in one pass. -/
theorem passGain_mono {fs t t' : Nat} (m : Nat) (hfs : 0 < fs) (ht : 0 < t) (hle : t ≤ t') :
    passGain m fs t ≤ passGain m fs t' :=
  pow2negQ15_antitone (Nat.div_le_div_left (Nat.mul_le_mul_left fs hle) (Nat.mul_pos hfs ht))

section
variable {gdc gny : Nat}

theorem dampPole_of_sum_eq_zero (h : gdc + gny = 0) : dampPole gdc gny = 0 := if_pos h

theorem dampInput_of_sum_eq_zero (h : gdc + gny = 0) : dampInput gdc gny = 0 := if_pos h

/-- The pole is a floor division of the difference of the gains, which is not negative. -/
theorem dampPole_isFloor (h : gdc + gny ≠ 0) (hle : gny ≤ gdc) :
    IsFloor (dampPole gdc gny) (((gdc : Int) - gny) * 32768) ((gdc : Int) + gny) := by
  have hfloor := isFloor_div ((gdc - gny) * 32768) (Nat.pos_of_ne_zero h)
  push_cast [hle] at hfloor
  rwa [dampPole, if_neg h]

theorem dampInput_isFloor (h : gdc + gny ≠ 0) :
    IsFloor (dampInput gdc gny) (2 * (gdc : Int) * gny) ((gdc : Int) + gny) := by
  have hfloor := isFloor_div (2 * gdc * gny) (Nat.pos_of_ne_zero h)
  push_cast at hfloor
  rwa [dampInput, if_neg h]

end

section
variable (cfg : Config) (u : Rev) (k : Fin 4)

theorem revRecompute_gdc : at4 (revRecompute cfg u).gdc k =
    if u.time = 0 then 0 else passGain (at4 cfg.m k) u.fs u.time := at4_map ..

theorem revRecompute_gny : at4 (revRecompute cfg u).gny k =
    if u.time = 0 then 0 else passGain (at4 cfg.m k) u.fs (min cfg.t60ny u.time) := at4_map ..

theorem revRecompute_gp : at4 (revRecompute cfg u).gp k =
    dampPole (at4 (revRecompute cfg u).gdc k) (at4 (revRecompute cfg u).gny k) := at4_zip ..

theorem revRecompute_gc : at4 (revRecompute cfg u).gc k =
    dampInput (at4 (revRecompute cfg u).gdc k) (at4 (revRecompute cfg u).gny k) := at4_zip ..

end

/-- The gain at Nyquist is at most the gain at zero frequency: its decay time is the shorter one. -/
theorem revRecompute_gny_le_gdc {cfg : Config} {u : Rev} (hfs : 0 < u.fs) (hny : 0 < cfg.t60ny) (k : Fin 4) :
    at4 (revRecompute cfg u).gny k ≤ at4 (revRecompute cfg u).gdc k := by
  rw [revRecompute_gny, revRecompute_gdc]
  split
  · exact Nat.le_refl 0
  next htime => exact passGain_mono _ hfs (by omega) (Nat.min_le_right ..)

theorem revRecompute_derived {cfg : Config} {u : Rev} (hfs : 0 < u.fs) (hny : 0 < cfg.t60ny) :
    RevDerived cfg (revRecompute cfg u) := by
  intro k gdc gny
  have hgdc : gdc = if u.time = 0 then 0 else passGain (at4 cfg.m k) u.fs u.time := revRecompute_gdc cfg u k
  have hgny : gny = if u.time = 0 then 0 else passGain (at4 cfg.m k) u.fs (min cfg.t60ny u.time) :=
    revRecompute_gny cfg u k
  have hle : gny ≤ gdc := revRecompute_gny_le_gdc hfs hny k
  rw [revRecompute_gp, revRecompute_gc]
  refine ⟨fun (htime : u.time = 0) => ?_, fun (htime : u.time ≠ 0) => ?_, fun hsum => ?_, fun hsum => ?_⟩
  · exact ⟨hgdc.trans (if_pos htime), hgny.trans (if_pos htime)⟩
  · exact ⟨hgdc.trans (if_neg htime), hgny.trans (if_neg htime)⟩
  · exact ⟨dampPole_of_sum_eq_zero hsum, dampInput_of_sum_eq_zero hsum⟩
  · exact ⟨dampPole_isFloor hsum hle, dampInput_isFloor hsum⟩

theorem revClear_cleared (u : Rev) : RevCleared (revClear u) := by
  refine ⟨fun k a => ?_, fun k => ?_, fun k => at4_all 0 k, rfl⟩
  · rw [revClear, at4_all, read_nil]
  · rw [revClear, at4_all, wf_nil]

/-- The two steps write the coefficients, the lines and the filter states only. -/
theorem revClear_revRecompute_eq_withRecomputed (cfg : Config) (u : Rev) :
    revClear (revRecompute cfg u) = withRecomputed u (revClear (revRecompute cfg u)) := rfl

/-! INIT and SET (R125 to R127). -/

theorem revDivisorOk_of_pos {cfg : Config} {u : Rev} (hfs : 0 < u.fs) (hny : 0 < cfg.t60ny) :
    revDivisorOk cfg u = true := by
  rw [revDivisorOk, Bool.or_eq_true, decide_eq_true_iff, decide_eq_true_iff]
  refine or_iff_not_imp_left.2 fun htime => Nat.mul_ne_zero hfs.ne' ?_
  omega

/-- With divisors that are not 0 the end of INIT and SET completes. -/
theorem revSet_eq_replied {u : Rev} {s : State} (hfs : 0 < u.fs) (hny : 0 < s.cfg.t60ny) (f : Rev → Rev) :
    revSet u f s = .next (replied 0 { s with rev := f (revClear (revRecompute s.cfg u)) }) := by
  rw [revSet, if_pos (revDivisorOk_of_pos hfs hny), answer_eq_replied]

theorem t60ny_pos_of_legal {cfg : Config} (h : cfg.Legal) : 0 < cfg.t60ny := by
  obtain ⟨-, -, -, -, -, -, -, -, -, hny, -⟩ := h
  exact hny

theorem fsMin_pos_of_legal {cfg : Config} (h : cfg.Legal) : 0 < cfg.fsMin := by
  obtain ⟨-, -, -, -, -, -, -, -, -, -, -, -, -, hfsMin, -⟩ := h
  exact hfsMin

/-- What INIT does after its stores: the two steps, then the cursor, the switch and INITED. -/
theorem revSet_restarts {u : Rev} {s : State} (hfs : 0 < u.fs) (hny : 0 < s.cfg.t60ny) :
    ∃ v, revSet u (fun w => { w with rcur := 0, enable := false, inited := true }) s =
        .next (replied 0 { s with rev := v }) ∧
      v.inited = true ∧ v.enable = false ∧ v.fs = u.fs ∧ v.time = u.time ∧ v.gain = u.gain ∧ v.rcur = 0 ∧
      RevDerived s.cfg v ∧ RevCleared v :=
  ⟨_, revSet_eq_replied hfs hny _, rfl, rfl, rfl, rfl, rfl, rfl, revRecompute_derived (u := u) hfs hny,
    revClear_cleared (revRecompute s.cfg u)⟩

/-- Settles O49: the clamped rate is at least `FS_MIN`, so the recompute step has its divisors. -/
theorem reverbInitSetsDefaults : Obligations.ReverbInitSetsDefaults := by
  intro fs s hlegal
  have hfs : 0 < clamped fs s.cfg.fsMin s.cfg.fsMax := (fsMin_pos_of_legal hlegal).trans_le (le_clamped ..)
  exact revSet_restarts (u := { s.rev with fs := _, time := _, gain := _ }) hfs (t60ny_pos_of_legal hlegal)

/-- What every SET of REV does, for the unit `u` with the stored operand. -/
theorem revSet_recomputes {u : Rev} {s : State} (hfs : 0 < u.fs) (hny : 0 < s.cfg.t60ny) :
    ∃ v, revSet u (fun w => w) s = .next (replied 0 { s with rev := v }) ∧ RevDerived s.cfg v ∧ RevCleared v ∧
      v = withRecomputed u v :=
  ⟨_, revSet_eq_replied hfs hny _, revRecompute_derived hfs hny, revClear_cleared _,
    revClear_revRecompute_eq_withRecomputed s.cfg u⟩

section
variable {s : State} (hinit : s.rev.inited = true) (v : Word32)
include hinit

/-- REV.SET.TIME of an initialised unit (R126). -/
theorem exec_revSetTime :
    exec (.revSetTime v) s = revSet { s.rev with time := clamped v 0 s.cfg.rtMax } (fun w => w) s :=
  whenInited_of hinit s _

/-- REV.SET.GAIN of an initialised unit (R127). -/
theorem exec_revSetGain :
    exec (.revSetGain v) s = revSet { s.rev with gain := clamped v 0 32768 } (fun w => w) s :=
  whenInited_of hinit s _

end

/-- Settles O50: each SET is the store and then the two steps; the invariant gives the recompute step its divisors. -/
theorem reverbSettersRecomputeAndClear : Obligations.ReverbSettersRecomputeAndClear := by
  intro v s hinv hinit
  have hny := t60ny_pos_of_legal hinv.legal
  have hfs : 0 < s.rev.fs := (fsMin_pos_of_legal hinv.legal).trans_le (hinv.rev hinit).fs.1
  rw [exec_revSetTime hinit, exec_revSetGain hinit]
  exact ⟨revSet_recomputes hfs hny, revSet_recomputes hfs hny⟩

/-! PROC (R130). -/

theorem sampleOk_eq_false_iff {x : Word32} : sampleOk x = false ↔ ¬IsSample x := decide_eq_false_iff_not

theorem clamp16_eq_clip (v : Int) : clamp16 v = clip v := rfl

theorem toInt_cellOf_clip (v : Int) : (cellOf (clip v)).toInt = clip v := by
  apply toInt_cellOf <;> unfold clip <;> omega

/-- Every line of a legal configuration is longer than the delay read from it. -/
theorem line_delay_lt_lineLen {cfg : Config} (h : cfg.Legal) (k : Fin 4) : at4 cfg.m k < cfg.lineLen := by
  obtain ⟨-, -, -, -, -, -, -, -, hm, -⟩ := h
  exact (at4_of_forall hm k).2

theorem revIndexOk_of_lt {cfg : Config} {u : Rev} (hcur : u.rcur < cfg.lineLen)
    (hm : ∀ k, at4 cfg.m k < cfg.lineLen) : revIndexOk cfg u = true := by
  simp only [revIndexOk, Bool.and_eq_true, decide_eq_true_iff]
  exact ⟨⟨⟨⟨hcur, hm 0⟩, hm 1⟩, hm 2⟩, hm 3⟩

/-- The tap of a line is the cell its delay behind the cursor, modulo `L` (step 1). -/
theorem at4_revTaps {cfg : Config} {u : Rev} (hcur : u.rcur < cfg.lineLen) {k : Fin 4}
    (hm : at4 cfg.m k < cfg.lineLen) :
    at4 (revTaps cfg u) k = cellAt (at4 u.rb k) ((u.rcur : Int) - at4 cfg.m k) cfg.lineLen := by
  rw [revTaps, at4_zip, cellAt, ← ring_eq_sub_emod hcur hm, Int.toNat_natCast]

/-- The new state of each damping filter (step 3). -/
theorem at4_revDamp (u : Rev) (m : Quad Int) (k : Fin 4) :
    at4 (revDamp u m) k = (at4 u.gc k * at4 m k + at4 u.gp k * at4 u.z k).tdiv 32768 := by
  rw [revDamp, at4_zip, at4_zip, at4_zip, tq15_eq_int_tdiv]

/-- The lines after a tick, each written at the cursor (step 4). -/
theorem at4_revTick_rb (cfg : Config) (u : Rev) (x : Int) (k : Fin 4) :
    at4 (revTick cfg u x).rb k =
      (at4 u.rb k).write u.rcur (cellOf (clip (x + at4 (revDamp u (revMix (revTaps cfg u))) k))) := at4_zip ..

/-- The filter states, the tone state and the cursor after a tick (steps 3, 5 and 6). -/
theorem revTick_eq {cfg : Config} {u : Rev} (hcur : u.rcur < cfg.lineLen) (x : Int) :
    revTick cfg u x =
      { u with rb := (revTick cfg u x).rb, z := revDamp u (revMix (revTaps cfg u)),
               tcz := revTone cfg u.tcz (quadSum (revTaps cfg u)), rcur := (u.rcur + 1) % cfg.lineLen } := by
  rw [← nextCursor_eq_mod hcur]
  rfl

/-- The new state of the tone filter (step 5). -/
theorem revTone_eq (cfg : Config) (tcz sm : Int) :
    revTone cfg tcz sm = tcz + (cfg.tca * (sm * 256 - tcz)).tdiv 32768 := by
  rw [revTone, tq15_eq_int_tdiv]

/-- The output from the sum of the taps and the new tone state (step 5). -/
theorem revOutput_eq (cfg : Config) (gain : Nat) (sm tcz : Int) :
    revOutput cfg gain sm tcz = clip ((gain * (sm - (cfg.tcb * tcz.tdiv 256).tdiv 32768)).tdiv 32768) := by
  rw [revOutput, clamp16_eq_clip, tq15_eq_int_tdiv, tq15_eq_int_tdiv, tdiv_eq_int_tdiv]

/-- REV.PROC of a legal sample with every cell inside its line, in terms of the tick. -/
theorem exec_revProc {s : State} {x : Word32} (hinit : s.rev.inited = true) (hx : IsSample x)
    (hcur : s.rev.rcur < s.cfg.lineLen) (hm : ∀ k, at4 s.cfg.m k < s.cfg.lineLen) :
    exec (.revProc x) s = .next (replied
      (BitVec.ofInt 32 (revOutput s.cfg s.rev.gain (quadSum (revTaps s.cfg s.rev))
        (revTone s.cfg s.rev.tcz (quadSum (revTaps s.cfg s.rev)))))
      { s with rev := revTick s.cfg s.rev x.toInt }) := by
  change execRevProc x s = _
  rw [execRevProc, whenInited_of hinit, sampleOk_iff.2 hx, whenOperand_true, if_pos (revIndexOk_of_lt hcur hm)]
  exact answer_eq_replied _ _

/-- A tick keeps the canonical form of each line, puts the clamped sum at the cursor and keeps every other cell. -/
theorem revTick_line {cfg : Config} {u : Rev} (x : Int) {k : Fin 4} (hwf : Memory.wf (at4 u.rb k) = true) :
    Memory.wf (at4 (revTick cfg u x).rb k) = true ∧ ∀ a, (Memory.read (at4 (revTick cfg u x).rb k) a).toInt =
      if a = u.rcur then clip (x + at4 (revDamp u (revMix (revTaps cfg u))) k)
      else (Memory.read (at4 u.rb k) a).toInt := by
  rw [at4_revTick_rb]
  refine ⟨wf_write hwf _ _, fun a => ?_⟩
  rw [read_write hwf, apply_ite BitVec.toInt, toInt_cellOf_clip]

/-- Settles O52: the two faults, and the tick with each of its steps read off line by line. -/
theorem reverbProcIsOneTick : Obligations.ReverbProcIsOneTick := by
  intro x s
  have hexec : exec (.revProc x) s = execRevProc x s := rfl
  refine ⟨fun hinit => ?_, fun hinit hx => ?_, fun hinv hinit hx => ?_⟩
  · rw [hexec, execRevProc, hinit]
    exact takeFault_eq_faulted .eNoInit s
  · rw [hexec, execRevProc, whenInited_of hinit, sampleOk_eq_false_iff.2 hx]
    exact takeFault_eq_faulted .eOperand s
  · intro u len t m f sm tcz y
    have hcur : u.rcur < s.cfg.lineLen := hinv.rcursor
    have hm := line_delay_lt_lineLen hinv.legal
    have htaps : revTaps s.cfg u = ⟨t 0, t 1, t 2, t 3⟩ := quad_eq_of_at4 fun k => at4_revTaps hcur (hm k)
    have hmix : revMix (revTaps s.cfg u) = ⟨m 0, m 1, m 2, m 3⟩ := by
      rw [htaps]
      simp only [revMix, tdiv_eq_int_tdiv]
      rfl
    have hdamp : ∀ k, at4 (revDamp u (revMix (revTaps s.cfg u))) k = f k := fun k => by
      have hmixed : at4 (revMix (revTaps s.cfg u)) k = m k := by
        rw [hmix]
        match k with
        | 0 | 1 | 2 | 3 => rfl
      rw [at4_revDamp, hmixed]
    have hsum : quadSum (revTaps s.cfg u) = sm := by
      rw [htaps]
      rfl
    refine ⟨(revTick s.cfg u x.toInt).rb, ?_, fun k => ?_⟩
    · rw [exec_revProc hinit hx hcur hm, hsum, revOutput_eq, revTone_eq, revTick_eq hcur, quad_eq_of_at4 hdamp, hsum,
        revTone_eq]
      rfl
    · rw [← hdamp]
      exact revTick_line x.toInt (at4_of_forall hinv.rb k).1

/-! GET, SWITCH and PEEK (R128, R129, R131). -/

/-- The parameters that GET can name, as the values of the table of R54. -/
theorem revParams_getElem? (u : Rev) {k : Nat} (hk : k < 2) :
    (revParams u)[k]? = some (BitVec.ofNat 32 ([u.time, u.gain].getD k 0)) := by
  have hparams : revParams u = [u.time, u.gain].map (BitVec.ofNat 32) := rfl
  have hlength : k < [u.time, u.gain].length := hk
  rw [hparams, List.getElem?_map, List.getElem?_eq_getElem hlength, Option.map_some, List.getElem_eq_getD 0]

/-- The registers that PEEK can name, as the values of the table of R55. -/
theorem revRegisters_getElem? (u : Rev) {k : Nat} (hk : k < 27) :
    (revRegisters u)[k]? = some (BitVec.ofInt 32 (revRegister u k)) := by
  have hunsigned : unsignedValue = fun v : Nat => BitVec.ofInt 32 v := funext fun v => (BitVec.ofInt_natCast 32 v).symm
  have hbit : ∀ b : Bool, bitValue b = BitVec.ofInt 32 (if b then 1 else 0) := by decide
  have hregisters : revRegisters u = (List.range 27).map fun k => BitVec.ofInt 32 (revRegister u k) := by
    simp only [revRegisters, hunsigned, hbit]
    rfl
  rw [hregisters, List.getElem?_map, List.getElem?_range hk, Option.map_some]

/-- Settles O51: GET and PEEK read the register lists, SWITCH writes one bit. -/
theorem reverbGetSwitchAndPeekAnswer : Obligations.ReverbGetSwitchAndPeekAnswer := by
  intro s hinit
  refine ⟨fun sel hsel => ?_, fun on => ?_, fun sel hsel => ?_⟩
  · change execRevGet sel s = _
    rw [execRevGet, hinit, readRegister_of_getElem? s (revParams_getElem? _ hsel)]
  · change execRevSwitch on s = _
    rw [execRevSwitch, whenInited_of hinit, answer_eq_replied]
  · change execRevPeek sel s = _
    rw [execRevPeek, hinit, readRegister_of_getElem? s (revRegisters_getElem? _ hsel)]

end Sys2Proof.Laws
end

section
/-! Steps 1 to 4 of the check, which need the command word alone (R61, R142): `decode` rejects a word with the code that
`wordFault` gives, and a word it reads is the word of the command. -/

namespace Sys2Proof.Laws

open Sys2Proof.Machine Sys2Proof.Claims

/-! The fields of a word as numbers (R49). -/

theorem toNat_field (w : CommandWord) (start len : Nat) :
    (w.extractLsb' start len).toNat = w.toNat / 2 ^ start % 2 ^ len := by
  rw [BitVec.extractLsb'_toNat, Nat.shiftRight_eq_div_pow]

theorem unitOf_eq_toNat (w : CommandWord) : unitOf w = (CommandWord.unitField w).toNat :=
  have hlt : w.toNat / 2 ^ 60 < 2 ^ 4 := Nat.div_lt_of_lt_mul w.isLt
  ((toNat_field w 60 4).trans (Nat.mod_eq_of_lt hlt)).symm

theorem opOf_eq_toNat (w : CommandWord) : opOf w = (CommandWord.opField w).toNat := (toNat_field w 56 4).symm

theorem selOf_eq_toNat (w : CommandWord) : selOf w = (CommandWord.selField w).toNat := (toNat_field w 48 8).symm

theorem auxOf_eq_toNat (w : CommandWord) : auxOf w = (CommandWord.auxField w).toNat := (toNat_field w 32 16).symm

theorem dataOf_eq_toInt (w : CommandWord) : dataOf w = (CommandWord.dataField w).toInt :=
  congrArg BitVec.toInt (BitVec.setWidth_eq_extractLsb' (x := w) (by decide))

section
variable (u o : BitVec 4) (sel : BitVec 8) (aux : BitVec 16) (data : Word32)

@[simp] theorem unitOf_packWord : unitOf (packWord u o sel aux data) = u.toNat :=
  (unitOf_eq_toNat _).trans (congrArg BitVec.toNat (unitField_packWord ..))

@[simp] theorem opOf_packWord : opOf (packWord u o sel aux data) = o.toNat :=
  (opOf_eq_toNat _).trans (congrArg BitVec.toNat (opField_packWord ..))

@[simp] theorem selOf_packWord : selOf (packWord u o sel aux data) = sel.toNat :=
  (selOf_eq_toNat _).trans (congrArg BitVec.toNat (selField_packWord ..))

@[simp] theorem auxOf_packWord : auxOf (packWord u o sel aux data) = aux.toNat :=
  (auxOf_eq_toNat _).trans (congrArg BitVec.toNat (auxField_packWord ..))

@[simp] theorem dataOf_packWord : dataOf (packWord u o sel aux data) = data.toInt :=
  (dataOf_eq_toInt _).trans (congrArg BitVec.toInt (dataField_packWord ..))

end

/-! What a reading of a word has to be. -/

/-- `d` is the right reading of `w`: the fault code that the check gives the word, or, when it gives none, a well-formed
command whose word is `w`. -/
def Reads (w : CommandWord) : Decoded → Prop
  | .error c => wordFault w = codeNumber c
  | .ok i => wordFault w = 0 ∧ i.wellFormed = true ∧ encode i = w

/-- Command `i` is well formed and its word has these fields. -/
abbrev HasWord (i : Instr) (u o : BitVec 4) (sel : BitVec 8) (aux : BitVec 16) (data : Word32) : Prop :=
  i.wellFormed = true ∧ encode i = packWord u o sel aux data

section
variable {u o : BitVec 4} {sel : BitVec 8} {aux : BitVec 16} {data : Word32}

/-- What step 3 of the check looks for: a selector outside the table of its unit (E_SEL). -/
abbrev NoSelector (u o : BitVec 4) (sel : BitVec 8) : Prop :=
  (o.toNat = 2 ∨ o.toNat = 3) ∧ paramCount u.toNat ≤ sel.toNat ∨ o.toNat = 9 ∧ peekCount u.toNat ≤ sel.toNat

/-- What step 4 of the check looks for: a must-be-zero field that is not zero (E_RSVD). -/
abbrev ReservedSet (u o : BitVec 4) (sel : BitVec 8) (aux : BitVec 16) (data : Word32) : Prop :=
  o.toNat ≠ 2 ∧ o.toNat ≠ 3 ∧ o.toNat ≠ 9 ∧ sel.toNat ≠ 0 ∨ hasCursor u.toNat o.toNat = false ∧ aux.toNat ≠ 0 ∨
  hasNoData u.toNat o.toNat = true ∧ data.toInt ≠ 0 ∨ o.toNat = 4 ∧ data.toInt ≠ 0 ∧ data.toInt ≠ 1

/-- Every must-be-zero field is zero, in the words of the decoder. -/
def ReservedZero (u o : BitVec 4) (sel : BitVec 8) (aux : BitVec 16) (data : Word32) : Prop :=
  (o.toNat ≠ 2 → o.toNat ≠ 3 → o.toNat ≠ 9 → sel = 0) ∧ (hasCursor u.toNat o.toNat = false → aux = 0) ∧
  (hasNoData u.toNat o.toNat = true → data = 0) ∧ (o.toNat = 4 → data ≠ 0 → data = 1)

theorem not_reservedSet_iff : ¬ReservedSet u o sel aux data ↔ ReservedZero u o sel aux data := by
  have hsel : sel.toNat = 0 ↔ sel = 0 := BitVec.toNat_inj (y := 0)
  have haux : aux.toNat = 0 ↔ aux = 0 := BitVec.toNat_inj (y := 0)
  have hzero : data.toInt = 0 ↔ data = 0 := BitVec.toInt_inj (y := 0)
  have hone : data.toInt = 1 ↔ data = 1 := BitVec.toInt_inj (y := 1)
  simp only [ReservedSet, ReservedZero, not_or, not_and, not_not, ne_eq, hsel, haux, hzero, hone]

/-- Steps 1 to 4, one after the other. -/
theorem wordFault_packWord : wordFault (packWord u o sel aux data) =
    if 8 ≤ u.toNat then 1 else if accepts u.toNat o.toNat = false then 2 else if NoSelector u o sel then 3
    else if ReservedSet u o sel aux data then 4 else 0 := by
  rw [ite_or, ite_or, ite_or, ite_or]
  delta wordFault
  rw [unitOf_packWord, opOf_packWord, selOf_packWord, auxOf_packWord, dataOf_packWord]

theorem wordFault_of_noUnit (hu : 8 ≤ u.toNat) : wordFault (packWord u o sel aux data) = 1 := by
  rw [wordFault_packWord, if_pos hu]

section
variable (hu : u.toNat < 8)
include hu

theorem wordFault_of_notAccepts (hop : accepts u.toNat o.toNat = false) :
    wordFault (packWord u o sel aux data) = 2 := by
  rw [wordFault_packWord, if_neg (Nat.not_le.2 hu), if_pos hop]

variable (hop : accepts u.toNat o.toNat = true)
include hop

theorem wordFault_of_accepts : wordFault (packWord u o sel aux data) =
    if NoSelector u o sel then 3 else if ReservedSet u o sel aux data then 4 else 0 := by
  rw [wordFault_packWord, if_neg (Nat.not_le.2 hu), if_neg (ne_false_of_eq_true hop)]

theorem wordFault_of_noSelector (hsel : NoSelector u o sel) : wordFault (packWord u o sel aux data) = 3 := by
  rw [wordFault_of_accepts hu hop, if_pos hsel]

/-- With a selector of the table, step 4 decides between the command and E_RSVD; `P` is the decoder's own test of the
must-be-zero fields. -/
theorem reads_of_reserved {P : Prop} [Decidable P] {i : Instr} (hsel : ¬NoSelector u o sel)
    (hP : P ↔ ReservedZero u o sel aux data) (hword : P → HasWord i u o sel aux data) :
    Reads (packWord u o sel aux data) (if P then .ok i else .error .eRsvd) := by
  have hcode := wordFault_of_accepts (sel := sel) (aux := aux) (data := data) hu hop
  rw [if_neg hsel] at hcode
  split
  next h => exact ⟨hcode.trans (if_neg (not_reservedSet_iff.2 (hP.1 h))), hword h⟩
  next h => exact hcode.trans (if_pos (not_not.1 (mt not_reservedSet_iff.1 (mt hP.2 h))))

end

/-! The formats (R51), for the operations that have them. -/

/-- An operation whose format has no selector and whose operand is not a bit. -/
abbrev PlainOp (op : Nat) : Prop := op ≠ 2 ∧ op ≠ 3 ∧ op ≠ 4 ∧ op ≠ 9

/-- `DATA[31:1]` is zero when `DATA` is 0 or 1. -/
theorem extract_eq_zero_iff : data.extractLsb' 1 31 = 0 ↔ data ≠ 0 → data = 1 := by
  change data.extractLsb' 1 31 = 0#31 ↔ data ≠ 0#32 → data = 1#32
  simp only [← BitVec.toNat_inj, BitVec.extractLsb'_toNat, Nat.shiftRight_eq_div_pow, BitVec.toNat_ofNat, ne_eq]
  omega

/-- A `DATA` field whose bits 31:1 are zero is that of its operand bit (R60). -/
theorem switchData_getLsbD (h : data.extractLsb' 1 31 = 0) : switchData (data.getLsbD 0) = data := by
  by_cases hzero : data = 0
  · rw [hzero]
    rfl
  · rw [extract_eq_zero_iff.1 h hzero]
    rfl

section
variable (hu : u.toNat < 8) (hop : accepts u.toNat o.toNat = true)
include hu hop

theorem reads_formatZ {i : Instr} (ho : PlainOp o.toNat) (hcursor : hasCursor u.toNat o.toNat = false)
    (hdata : hasNoData u.toNat o.toNat = true) (hi : HasWord i u o 0 0 0) :
    Reads (packWord u o sel aux data) (formatZ sel aux data i) := by
  obtain ⟨h2, h3, h4, h9⟩ := ho
  refine reads_of_reserved hu hop (by omega) ⟨fun ⟨hs, ha, hd⟩ => ?_, fun ⟨hs, ha, hd, _⟩ => ?_⟩ ?_
  · exact ⟨fun _ _ _ => hs, fun _ => ha, fun _ => hd, fun h => absurd h h4⟩
  · exact ⟨hs h2 h3 h9, ha hcursor, hd hdata⟩
  · rintro ⟨rfl, rfl, rfl⟩
    exact hi

/-- Formats I and Q, which have the same fields. -/
theorem reads_formatI {mk : Word32 → Instr} (ho : PlainOp o.toNat) (hcursor : hasCursor u.toNat o.toNat = false)
    (hdata : hasNoData u.toNat o.toNat = false) (hi : ∀ v, HasWord (mk v) u o 0 0 v) :
    Reads (packWord u o sel aux data) (formatI sel aux data mk) := by
  obtain ⟨h2, h3, h4, h9⟩ := ho
  refine reads_of_reserved hu hop (by omega) ⟨fun ⟨hs, ha⟩ => ?_, fun ⟨hs, ha, _⟩ => ?_⟩ ?_
  · exact ⟨fun _ _ _ => hs, fun _ => ha, fun h => absurd h (ne_true_of_eq_false hdata), fun h => absurd h h4⟩
  · exact ⟨hs h2 h3 h9, ha hcursor⟩
  · rintro ⟨rfl, rfl⟩
    exact hi data

/-- Formats P and X. -/
theorem reads_formatP {mk : BitVec 16 → Word32 → Instr} (ho : PlainOp o.toNat)
    (hcursor : hasCursor u.toNat o.toNat = true) (hdata : hasNoData u.toNat o.toNat = false)
    (hi : ∀ c v, HasWord (mk c v) u o 0 c v) : Reads (packWord u o sel aux data) (formatP sel aux data mk) := by
  obtain ⟨h2, h3, h4, h9⟩ := ho
  refine reads_of_reserved hu hop (by omega) ⟨fun hs => ?_, fun ⟨hs, _⟩ => hs h2 h3 h9⟩ ?_
  · exact ⟨fun _ _ _ => hs, fun h => absurd h (ne_false_of_eq_true hcursor),
      fun h => absurd h (ne_true_of_eq_false hdata), fun h => absurd h h4⟩
  · rintro rfl
    exact hi aux data

theorem reads_formatS {mk : Word32 → Instr} (ho : o.toNat = 2) (hsel : sel.toNat < paramCount u.toNat)
    (hi : ∀ v, HasWord (mk v) u o sel 0 v) : Reads (packWord u o sel aux data) (formatS aux data mk) := by
  have hcursor : hasCursor u.toNat o.toNat = false := by rw [ho]; rfl
  have hdata : hasNoData u.toNat o.toNat = false := by rw [ho]; rfl
  refine reads_of_reserved hu hop (by omega) ⟨fun ha => ?_, fun ⟨_, ha, _⟩ => ha hcursor⟩ ?_
  · exact ⟨fun h => absurd ho h, fun _ => ha, fun h => absurd h (ne_true_of_eq_false hdata), by omega⟩
  · rintro rfl
    exact hi data

theorem reads_formatW {mk : Bool → Instr} (ho : o.toNat = 4) (hi : ∀ on, HasWord (mk on) u o 0 0 (switchData on)) :
    Reads (packWord u o sel aux data) (formatW sel aux data mk) := by
  have hcursor : hasCursor u.toNat o.toNat = false := by rw [ho]; rfl
  have hdata : hasNoData u.toNat o.toNat = false := by rw [ho]; rfl
  refine reads_of_reserved hu hop (by omega) ⟨fun ⟨hs, ha, hd⟩ => ?_, fun ⟨hs, ha, _, hd⟩ => ?_⟩ ?_
  · exact ⟨fun _ _ _ => hs, fun _ => ha, fun h => absurd h (ne_true_of_eq_false hdata),
      fun _ => extract_eq_zero_iff.1 hd⟩
  · exact ⟨hs (by omega) (by omega) (by omega), ha hcursor, extract_eq_zero_iff.2 (hd ho)⟩
  · rintro ⟨rfl, rfl, hd⟩
    have hword := hi (data.getLsbD 0)
    rwa [switchData_getLsbD hd] at hword

/-- Format G of GET and of PEEK, with their own numbers of selectors. -/
theorem reads_formatG {mk : BitVec 8 → Instr} {count : Nat}
    (ho : o.toNat = 3 ∧ paramCount u.toNat = count ∨ o.toNat = 9 ∧ peekCount u.toNat = count)
    (hi : ∀ sel, sel.toNat < count → HasWord (mk sel) u o sel 0 0) :
    Reads (packWord u o sel aux data) (formatG count sel aux data mk) := by
  have hcursor : hasCursor u.toNat o.toNat = false := by
    rcases ho with ⟨h, -⟩ | ⟨h, -⟩ <;> rw [h] <;> rfl
  have hdata : hasNoData u.toNat o.toNat = true := by
    rcases ho with ⟨h, -⟩ | ⟨h, -⟩ <;> rw [h] <;> rfl
  delta formatG
  split
  next hsel =>
    refine reads_of_reserved hu hop (by omega) ⟨fun ⟨ha, hd⟩ => ?_, fun ⟨_, ha, hd, _⟩ => ⟨ha hcursor, hd hdata⟩⟩ ?_
    · exact ⟨by omega, fun _ => ha, fun _ => hd, by omega⟩
    · rintro ⟨rfl, rfl⟩
      exact hi sel hsel
  next hsel => exact wordFault_of_noSelector hu hop (by omega)

end

end

/-! The six effect units, whose rows are laid out alike (R53). -/

/-- Reading a word of an effect unit from its rows: the command of each operation, the parameters of SET in the order of
their numbers, the number of PEEK registers, and PROC with its format. -/
def decodeRows (init : Word32 → Instr) (sets : List (Word32 → Instr)) (get : BitVec 8 → Instr) (switch : Bool → Instr)
    (proc : BitVec 8 → BitVec 16 → Word32 → Decoded) (peeks : Nat) (peek : BitVec 8 → Instr)
    (op : BitVec 4) (sel : BitVec 8) (aux : BitVec 16) (data : Word32) : Decoded :=
  match op.toNat with
  | 1 => formatI sel aux data init
  | 2 =>
    match sets[sel.toNat]? with
    | some set => formatS aux data set
    | none => .error .eSel
  | 3 => formatG sets.length sel aux data get
  | 4 => formatW sel aux data switch
  | 5 => proc sel aux data
  | 9 => formatG peeks sel aux data peek
  | _ => .error .eOp

theorem accepts_effect {unit : Nat} (h : 2 ≤ unit) (op : Nat) : accepts unit op = [1, 2, 3, 4, 5, 9].contains op := by
  match unit, h with
  | _ + 2, _ => rfl

/-- Rows with the counts of R140 and the words of R56 read every word of the unit right. -/
theorem reads_decodeRows {u : BitVec 4} {init : Word32 → Instr} {sets : List (Word32 → Instr)} {get : BitVec 8 → Instr}
    {switch : Bool → Instr} {proc : BitVec 8 → BitVec 16 → Word32 → Decoded} {peeks : Nat} {peek : BitVec 8 → Instr}
    (o : BitVec 4) (sel : BitVec 8) (aux : BitVec 16) (data : Word32) (hu : 2 ≤ u.toNat ∧ u.toNat < 8)
    (hparams : paramCount u.toNat = sets.length) (hpeeks : peekCount u.toNat = peeks)
    (hinit : ∀ v, HasWord (init v) u 1 0 0 v)
    (hsets : ∀ (k : Nat) (h : k < sets.length) (v : Word32), HasWord (sets[k] v) u 2 (BitVec.ofNat 8 k) 0 v)
    (hget : ∀ sel, sel.toNat < sets.length → HasWord (get sel) u 3 sel 0 0)
    (hswitch : ∀ on, HasWord (switch on) u 4 0 0 (switchData on))
    (hproc : Reads (packWord u 5 sel aux data) (proc sel aux data))
    (hpeek : ∀ sel, sel.toNat < peeks → HasWord (peek sel) u 9 sel 0 0) :
    Reads (packWord u o sel aux data) (decodeRows init sets get switch proc peeks peek o sel aux data) := by
  obtain ⟨hlo, hhi⟩ := hu
  have hop := accepts_effect hlo
  unfold decodeRows
  split
  next h =>
    obtain rfl : o = 1 := BitVec.eq_of_toNat_eq h
    have hdata : hasNoData u.toNat 1 = false := beq_eq_false_iff_ne.2 (by omega)
    exact reads_formatI hhi (hop _) (by decide) rfl hdata hinit
  next h =>
    obtain rfl : o = 2 := BitVec.eq_of_toNat_eq h
    split
    next set hset =>
      obtain ⟨hlt, rfl⟩ := List.getElem?_eq_some_iff.1 hset
      have hword := hsets sel.toNat hlt
      rw [BitVec.ofNat_toNat, BitVec.setWidth_eq] at hword
      exact reads_formatS hhi (hop _) rfl (hlt.trans_eq hparams.symm) hword
    next hnone =>
      have hsel : paramCount u.toNat ≤ sel.toNat := hparams.trans_le (List.getElem?_eq_none_iff.1 hnone)
      exact wordFault_of_noSelector hhi (hop _) (.inl ⟨.inl rfl, hsel⟩)
  next h =>
    obtain rfl : o = 3 := BitVec.eq_of_toNat_eq h
    exact reads_formatG hhi (hop _) (.inl ⟨rfl, hparams⟩) hget
  next h =>
    obtain rfl : o = 4 := BitVec.eq_of_toNat_eq h
    exact reads_formatW hhi (hop _) rfl hswitch
  next h =>
    obtain rfl : o = 5 := BitVec.eq_of_toNat_eq h
    exact hproc
  next h =>
    obtain rfl : o = 9 := BitVec.eq_of_toNat_eq h
    exact reads_formatG hhi (hop _) (.inr ⟨rfl, hpeeks⟩) hpeek
  next h1 h2 h3 h4 h5 h9 =>
    simp only [imp_false] at h1 h2 h3 h4 h5 h9
    exact wordFault_of_notAccepts hhi ((hop _).trans (by simp [h1, h2, h3, h4, h5, h9]))

/-! The rows of each unit (R54 to R56). -/

/-- The number of a grain unit, and the reading of its words. -/
def grainUnit : GrainId → BitVec 4
  | .det => 2
  | .oct => 3
  | .psh => 4

def decodeGrain (g : GrainId) (op : BitVec 4) (sel : BitVec 8) (aux : BitVec 16) (data : Word32) : Decoded :=
  match g with
  | .det => decodeDet op sel aux data
  | .oct => decodeOct op sel aux data
  | .psh => decodePsh op sel aux data

section
variable (o : BitVec 4) (sel : BitVec 8) (aux : BitVec 16) (data : Word32)

theorem reads_decodeGrain (g : GrainId) :
    Reads (packWord (grainUnit g) o sel aux data) (decodeGrain g o sel aux data) := by
  have hrows : decodeGrain g o sel aux data = decodeRows (Instr.grainInit · g)
      [(Instr.grainSetShift · g), (Instr.grainSetMix · g), (Instr.grainSetGain · g)] (Instr.grainGet · g)
      (Instr.grainSwitch · g) (formatP · · · fun c x => Instr.grainProc c x g) 21 (Instr.grainPeek · g)
      o sel aux data := by
    cases g
    all_goals
      delta decodeGrain decodeDet decodeOct decodePsh decodeRows
      generalize sel.toNat = k
      match k with
      | 0 | 1 | 2 | _ + 3 => rfl
  rw [hrows]
  cases g
  all_goals
    exact reads_decodeRows o sel aux data (by decide) rfl rfl (fun _ => ⟨rfl, rfl⟩)
      (fun k h _ => match k, h with | 0, _ | 1, _ | 2, _ => ⟨rfl, rfl⟩)
      (fun _ h => ⟨decide_eq_true h, rfl⟩) (fun _ => ⟨rfl, rfl⟩)
      (reads_formatP (by decide) rfl (by decide) rfl rfl fun _ _ => ⟨rfl, rfl⟩) fun _ h => ⟨decide_eq_true h, rfl⟩

theorem reads_decodeFbe : Reads (packWord 5 o sel aux data) (decodeFbe o sel aux data) := by
  have hrows : decodeFbe o sel aux data = decodeRows .fbeInit
      [.fbeSetDelayMs, .fbeSetDecay, .fbeSetGain, .fbeSetDelaySmp] .fbeGet .fbeSwitch (formatP · · · .fbeProc) 8
      .fbePeek o sel aux data := by
    delta decodeFbe decodeRows
    generalize sel.toNat = k
    match k with
    | 0 | 1 | 2 | 3 | _ + 4 => rfl
  rw [hrows]
  exact reads_decodeRows o sel aux data (by decide) rfl rfl (fun _ => ⟨rfl, rfl⟩)
    (fun k h _ => match k, h with | 0, _ | 1, _ | 2, _ | 3, _ => ⟨rfl, rfl⟩)
    (fun _ h => ⟨decide_eq_true h, rfl⟩) (fun _ => ⟨rfl, rfl⟩)
    (reads_formatP (by decide) rfl (by decide) rfl rfl fun _ _ => ⟨rfl, rfl⟩) fun _ h => ⟨decide_eq_true h, rfl⟩

theorem reads_decodeFfe : Reads (packWord 6 o sel aux data) (decodeFfe o sel aux data) := by
  have hrows : decodeFfe o sel aux data = decodeRows .ffeInit
      [.ffeSetDelayMs, .ffeSetRepeats, .ffeSetDecay, .ffeSetGain, .ffeSetDelaySmp] .ffeGet .ffeSwitch
      (formatP · · · .ffeProc) 17 .ffePeek o sel aux data := by
    delta decodeFfe decodeRows
    generalize sel.toNat = k
    match k with
    | 0 | 1 | 2 | 3 | 4 | _ + 5 => rfl
  rw [hrows]
  exact reads_decodeRows o sel aux data (by decide) rfl rfl (fun _ => ⟨rfl, rfl⟩)
    (fun k h _ => match k, h with | 0, _ | 1, _ | 2, _ | 3, _ | 4, _ => ⟨rfl, rfl⟩)
    (fun _ h => ⟨decide_eq_true h, rfl⟩) (fun _ => ⟨rfl, rfl⟩)
    (reads_formatP (by decide) rfl (by decide) rfl rfl fun _ _ => ⟨rfl, rfl⟩) fun _ h => ⟨decide_eq_true h, rfl⟩

/-- REV, whose PROC is of format Q. -/
theorem reads_decodeRev : Reads (packWord 7 o sel aux data) (decodeRev o sel aux data) := by
  have hrows : decodeRev o sel aux data = decodeRows .revInit [.revSetTime, .revSetGain] .revGet .revSwitch
      (formatQ · · · .revProc) 27 .revPeek o sel aux data := by
    delta decodeRev decodeRows
    generalize sel.toNat = k
    match k with
    | 0 | 1 | _ + 2 => rfl
  rw [hrows]
  exact reads_decodeRows o sel aux data (by decide) rfl rfl (fun _ => ⟨rfl, rfl⟩)
    (fun k h _ => match k, h with | 0, _ | 1, _ => ⟨rfl, rfl⟩)
    (fun _ h => ⟨decide_eq_true h, rfl⟩) (fun _ => ⟨rfl, rfl⟩)
    (reads_formatI (by decide) rfl (by decide) rfl rfl fun _ => ⟨rfl, rfl⟩) fun _ h => ⟨decide_eq_true h, rfl⟩

/-! The two units that are no effect. -/

theorem reads_decodeGlb : Reads (packWord 0 o sel aux data) (decodeGlb o sel aux data) := by
  unfold decodeGlb
  split
  next h =>
    obtain rfl : o = 0 := BitVec.eq_of_toNat_eq h
    exact reads_formatZ (by decide) rfl (by decide) rfl rfl ⟨rfl, rfl⟩
  next h =>
    obtain rfl : o = 9 := BitVec.eq_of_toNat_eq h
    exact reads_formatG (by decide) rfl (.inr ⟨rfl, rfl⟩) fun _ h => ⟨decide_eq_true h, rfl⟩
  next h0 h9 =>
    simp only [imp_false] at h0 h9
    exact wordFault_of_notAccepts (by decide) (show [0, 9].contains o.toNat = false by simp [h0, h9])

theorem reads_decodeShb : Reads (packWord 1 o sel aux data) (decodeShb o sel aux data) := by
  unfold decodeShb
  split
  next h =>
    obtain rfl : o = 1 := BitVec.eq_of_toNat_eq h
    exact reads_formatZ (by decide) rfl (by decide) rfl rfl ⟨rfl, rfl⟩
  next h =>
    obtain rfl : o = 6 := BitVec.eq_of_toNat_eq h
    exact reads_formatI (by decide) rfl (by decide) rfl rfl fun _ => ⟨rfl, rfl⟩
  next h =>
    obtain rfl : o = 7 := BitVec.eq_of_toNat_eq h
    exact reads_formatP (by decide) rfl (by decide) rfl rfl fun _ _ => ⟨rfl, rfl⟩
  next h =>
    obtain rfl : o = 8 := BitVec.eq_of_toNat_eq h
    exact reads_formatP (by decide) rfl (by decide) rfl rfl fun _ _ => ⟨rfl, rfl⟩
  next h =>
    obtain rfl : o = 9 := BitVec.eq_of_toNat_eq h
    exact reads_formatG (by decide) rfl (.inr ⟨rfl, rfl⟩) fun _ h => ⟨decide_eq_true h, rfl⟩
  next h1 h6 h7 h8 h9 =>
    simp only [imp_false] at h1 h6 h7 h8 h9
    exact wordFault_of_notAccepts (by decide)
      (show [1, 6, 7, 8, 9].contains o.toNat = false by simp [h1, h6, h7, h8, h9])

end

/-- `decode` reads every word right: steps 1 to 4 of R142. -/
theorem reads_decode (w : CommandWord) : Reads w (decode w) := by
  rw [← packWord_fields w]
  generalize CommandWord.unitField w = u, CommandWord.opField w = o, CommandWord.selField w = sel,
    CommandWord.auxField w = aux, CommandWord.dataField w = data
  unfold decode
  simp only [unitField_packWord, opField_packWord, selField_packWord, auxField_packWord, dataField_packWord]
  split
  next h =>
    obtain rfl : u = 0 := BitVec.eq_of_toNat_eq h
    exact reads_decodeGlb o sel aux data
  next h =>
    obtain rfl : u = 1 := BitVec.eq_of_toNat_eq h
    exact reads_decodeShb o sel aux data
  next h =>
    obtain rfl : u = 2 := BitVec.eq_of_toNat_eq h
    exact reads_decodeGrain o sel aux data .det
  next h =>
    obtain rfl : u = 3 := BitVec.eq_of_toNat_eq h
    exact reads_decodeGrain o sel aux data .oct
  next h =>
    obtain rfl : u = 4 := BitVec.eq_of_toNat_eq h
    exact reads_decodeGrain o sel aux data .psh
  next h =>
    obtain rfl : u = 5 := BitVec.eq_of_toNat_eq h
    exact reads_decodeFbe o sel aux data
  next h =>
    obtain rfl : u = 6 := BitVec.eq_of_toNat_eq h
    exact reads_decodeFfe o sel aux data
  next h =>
    obtain rfl : u = 7 := BitVec.eq_of_toNat_eq h
    exact reads_decodeRev o sel aux data
  next h0 h1 h2 h3 h4 h5 h6 h7 =>
    simp only [imp_false] at h0 h1 h2 h3 h4 h5 h6 h7
    exact wordFault_of_noUnit (by omega)

end Sys2Proof.Laws
end

section
/-! Steps 5 and 6 of the check, which need the state (R142): `exec` runs a command's rule only when its units are
initialised and its operands legal, and takes the fault that `stateFault` gives the command's word otherwise. -/

namespace Sys2Proof.Laws

open Sys2Proof.Machine Sys2Proof.Claims

/-! The rule of a command, once the checks pass: it gives one response, without fault. -/

/-- If `r` is a next state, it has one response more than `s`, and that response has `FAULT = 0`. -/
def Replies (s : State) (r : Result) : Prop := ∀ t, r = .next t → ∃ v, t.responses = word 0 v :: s.responses

section
variable {s : State}

theorem replies_fault {r : Fault} : Replies s (.fault r) := fun _ h => by cases h

theorem replies_answer {v : Word32} {s' : State} (h : s'.responses = s.responses) : Replies s (answer v s') := by
  intro t ht
  rw [answer_eq_replied] at ht
  cases ht
  exact ⟨v, congrArg _ h⟩

theorem Replies.withTap {s' : State} {c o : Nat} {k : Int → Result} (hk : ∀ x, Replies s (k x)) :
    Replies s (withTap s' c o k) :=
  fun t h => hk _ t (withTap_next h).2.2

theorem Replies.ffeTaps {s' : State} {count n idx : Nat} {acc : Int} {k : Int → Result} (hk : ∀ x, Replies s (k x)) :
    Replies s (ffeTaps s' count n idx acc k) := fun t h =>
  have ⟨sum, hsum⟩ := ffeTaps_next h
  hk sum t hsum

theorem Replies.withDivisor {d : Nat} {k : Result} (hk : Replies s k) : Replies s (withDivisor d k) :=
  fun t h => hk t (withDivisor_next h).2

theorem Replies.ite {p : Prop} [Decidable p] {k k' : Result} (hk : Replies s k) (hk' : Replies s k') :
    Replies s (if p then k else k') := by
  split
  · exact hk
  · exact hk'

theorem replies_revSet {u : Rev} {f : Rev → Rev} : Replies s (revSet u f s) :=
  .ite (replies_answer rfl) replies_fault

theorem replies_revInit (fs : Word32) : Replies s (execRevInit fs s) := by
  unfold execRevInit
  exact replies_revSet

theorem replies_setGrain {v : Word32} {g : GrainId} {u : Grain} : Replies s (answer v (s.setGrain g u)) :=
  replies_answer (setGrain_responses s g u)

theorem replies_grainFinish {g : GrainId} {x gr : Int} : Replies s (grainFinish g x gr s) :=
  replies_answer (setGrain_responses _ g _)

end

/-! The two checks. -/

/-- The code of steps 5 and 6: `initOk` says that the units are initialised, `operandOk` that the operands are legal. -/
def checkCode (initOk operandOk : Bool) : Nat := if initOk then if operandOk then 0 else 6 else 5

/-- `r` is what a command may answer when the check gives it `code`: the fault of that code, or a response without
fault. -/
def Meets (code : Nat) (s : State) (r : Result) : Prop :=
  (code ≠ 0 → r = .next (faulted code s)) ∧ (code = 0 → Replies s r)

section
variable {s : State} {k : Result}

theorem meets_zero (hk : Replies s k) : Meets 0 s k := ⟨fun h => absurd rfl h, fun _ => hk⟩

theorem meets_takeFault (c : FaultCode) : Meets (codeNumber c) s (takeFault c s) := by
  refine ⟨fun _ => takeFault_eq_faulted c s, fun h => ?_⟩
  cases c <;> cases h

theorem meets_checks (initOk operandOk : Bool) (hk : Replies s k) :
    Meets (checkCode initOk operandOk) s (whenInited initOk s (whenOperand operandOk s k)) := by
  cases initOk
  · exact meets_takeFault .eNoInit
  · cases operandOk
    · exact meets_takeFault .eOperand
    · exact meets_zero hk

end

/-! The two checks of a word, by its fields. -/

section
variable {s : State} {u o : BitVec 4} {sel : BitVec 8} {aux : BitVec 16} {data : Word32}

/-- Step 5: the unit is GLB or initialised or the command is its INIT, and SHB is initialised if PROC reads HB. -/
def initedOk (s : State) (u o : Nat) : Bool :=
  if o = 5 ∧ u ≠ 7 then (u == 0 || o == 1 || inited s u) && s.shb.inited else u == 0 || o == 1 || inited s u

/-- Step 6: the operands that the format has are legal. -/
def operandsOk (s : State) (u o : Nat) (aux : BitVec 16) (data : Word32) : Bool :=
  if o = 5 then if u = 7 then sampleOk data else cursorOk s aux && sampleOk data
  else if o = 6 then sampleOk data
  else if o = 7 then cursorOk s aux
  else if o = 8 then cursorOk s aux && offsetOk s data
  else true

theorem initedOk_eq_false_iff {u o : Nat} : initedOk s u o = false ↔
    u ≠ 0 ∧ o ≠ 1 ∧ inited s u = false ∨ o = 5 ∧ u ≠ 7 ∧ s.shb.inited = false := by
  delta initedOk
  have hown : (u == 0 || o == 1 || inited s u) = false ↔ u ≠ 0 ∧ o ≠ 1 ∧ inited s u = false := by
    rw [Bool.or_eq_false_iff, Bool.or_eq_false_iff, beq_eq_false_iff_ne, beq_eq_false_iff_ne, and_assoc]
  split
  next h => rw [Bool.and_eq_false_iff, hown, and_iff_right h.1, and_iff_right h.2]
  next h => exact hown.trans (or_iff_left fun ⟨h5, h7, _⟩ => h ⟨h5, h7⟩).symm

theorem operandsOk_eq_false_iff {u o : Nat} : operandsOk s u o aux data = false ↔
    hasCursor u o = true ∧ s.cfg.n ≤ aux.toNat ∨ hasSample o = true ∧ ¬(-32768 ≤ data.toInt ∧ data.toInt ≤ 32767) ∨
    o = 8 ∧ ¬(0 ≤ data.toInt ∧ data.toInt < s.cfg.n) := by
  have hcursor : s.cfg.n ≤ aux.toNat ↔ cursorOk s aux = false := by
    rw [← Bool.not_eq_true, cursorOk_iff, not_lt]
  have hsample : ¬(-32768 ≤ data.toInt ∧ data.toInt ≤ 32767) ↔ sampleOk data = false := by
    rw [← Bool.not_eq_true, sampleOk_iff]
  have hoffset : ¬(0 ≤ data.toInt ∧ data.toInt < s.cfg.n) ↔ offsetOk s data = false := by
    rw [← Bool.not_eq_true, offsetOk_iff]
  rw [hcursor, hsample, hoffset]
  delta operandsOk hasCursor hasSample
  split_ifs <;> simp [*, Bool.and_eq_false_iff, -Bool.and_eq_false_imp]

theorem stateFault_packWord : stateFault s (packWord u o sel aux data) =
    checkCode (initedOk s u.toNat o.toNat) (operandsOk s u.toNat o.toNat aux data) := by
  have hcode (i p : Bool) : checkCode i p = if i = false then 5 else if p = false then 6 else 0 := by
    cases i <;> cases p <;> rfl
  rw [hcode, if_congr initedOk_eq_false_iff rfl (if_congr operandsOk_eq_false_iff rfl rfl), ite_or, ite_or, ite_or]
  delta stateFault
  rw [unitOf_packWord, opOf_packWord, auxOf_packWord, dataOf_packWord]

/-! Commands in the forms that `exec` gives them. -/

section
variable {k : Result} {i p : Bool}

/-- A command with operands to check. -/
theorem meets_checked (hi : initedOk s u.toNat o.toNat = i) (hp : operandsOk s u.toNat o.toNat aux data = p)
    (hk : Replies s k) :
    Meets (stateFault s (packWord u o sel aux data)) s (whenInited i s (whenOperand p s k)) := by
  rw [stateFault_packWord, hi, hp]
  exact meets_checks i p hk

/-- A command whose operands are all legal. -/
theorem meets_inited (hi : initedOk s u.toNat o.toNat = i) (hp : operandsOk s u.toNat o.toNat aux data = true)
    (hk : Replies s k) : Meets (stateFault s (packWord u o sel aux data)) s (whenInited i s k) :=
  meets_checked hi hp hk

/-- INIT and NOP. -/
theorem meets_unchecked (hi : initedOk s u.toNat o.toNat = true) (hp : operandsOk s u.toNat o.toNat aux data = true)
    (hk : Replies s k) : Meets (stateFault s (packWord u o sel aux data)) s k :=
  meets_inited hi hp hk

/-- GET and PEEK with a selector of their table. -/
theorem meets_register (hi : initedOk s u.toNat o.toNat = i) (hp : operandsOk s u.toNat o.toNat aux data = true)
    {regs : List Word32} (hsel : sel.toNat < regs.length) :
    Meets (stateFault s (packWord u o sel aux data)) s (readRegister i regs sel s) := by
  delta readRegister
  rw [List.getElem?_eq_getElem hsel]
  exact meets_inited hi hp (replies_answer rfl)

end

end

/-- Steps 5 to 7 of R142 for each well-formed command. -/
theorem meets_exec (i : Instr) (s : State) (hwf : i.wellFormed = true) :
    Meets (stateFault s (encode i)) s (exec i s) := by
  cases i with
  | glbNop | shbInit | fbeInit _ | ffeInit _ => exact meets_unchecked rfl rfl (replies_answer rfl)
  | detInit _ | octInit _ | pshInit _ => exact meets_unchecked rfl rfl replies_setGrain
  | revInit fs => exact meets_unchecked rfl rfl (replies_revInit fs)
  | detSetShift _ | octSetShift _ | pshSetShift _ | detSetMix _ | octSetMix _ | pshSetMix _ | detSetGain _
  | octSetGain _ | pshSetGain _ | detSwitch _ | octSwitch _ | pshSwitch _ =>
    exact meets_inited rfl rfl replies_setGrain
  | fbeSetDelayMs _ | fbeSetDecay _ | fbeSetGain _ | fbeSwitch _ | ffeSetDelayMs _ | ffeSetRepeats _ | ffeSetDecay _
  | ffeSetGain _ | ffeSwitch _ | revSwitch _ => exact meets_inited rfl rfl (replies_answer rfl)
  | fbeSetDelaySmp _ | ffeSetDelaySmp _ => exact meets_inited rfl rfl (.withDivisor (replies_answer rfl))
  | revSetTime _ | revSetGain _ => exact meets_inited rfl rfl replies_revSet
  | glbPeek _ | shbPeek _ | detGet _ | detPeek _ | octGet _ | octPeek _ | pshGet _ | pshPeek _ | fbeGet _ | fbePeek _
  | ffeGet _ | ffePeek _ | revGet _ | revPeek _ => exact meets_register rfl rfl (of_decide_eq_true hwf)
  | shbPush _ | revProc _ => exact meets_checked rfl rfl (.ite (replies_answer rfl) replies_fault)
  | shbRead _ _ => exact meets_checked rfl rfl (.withTap fun _ => replies_answer rfl)
  | shbIndex _ _ => exact meets_checked rfl rfl (replies_answer rfl)
  | detProc _ _ | octProc _ _ | pshProc _ _ =>
    exact meets_checked rfl rfl (.withTap fun _ => .ite (.withTap fun _ => replies_grainFinish) replies_grainFinish)
  | fbeProc _ _ => exact meets_checked rfl rfl (.withTap fun _ => replies_answer rfl)
  | ffeProc _ _ => exact meets_checked rfl rfl (.ffeTaps fun _ => replies_answer rfl)

/-! The step. -/

section
variable {s : State} {w : CommandWord} {rest : List Input} (hp : s.pending = .command w :: rest) (hlegal : s.cfg.Legal)
include hp hlegal

theorem step_of_decode_error {c : FaultCode} (hw : decode w = .error c) :
    step s = takeFault c { s with pending := rest } := by
  delta step
  rw [hp]
  exact (if_pos hlegal).trans (by rw [hw])

theorem step_of_decode_ok {i : Instr} (hw : decode w = .ok i) : step s = exec i { s with pending := rest } := by
  delta step
  rw [hp]
  exact (if_pos hlegal).trans (by rw [hw])

end

theorem codeNumber_ne_zero (c : FaultCode) : codeNumber c ≠ 0 := by cases c <;> decide

/-- The whole check: the step takes the fault that the check gives, or runs the command. -/
theorem meets_step {s : State} {w : CommandWord} {rest : List Input} (hp : s.pending = .command w :: rest)
    (hlegal : s.cfg.Legal) : Meets (checkFault s w) { s with pending := rest } (step s) := by
  have hread := reads_decode w
  cases hw : decode w with
  | error c =>
    rw [hw] at hread
    have hcode : wordFault w = codeNumber c := hread
    have hne : wordFault w ≠ 0 := hcode ▸ codeNumber_ne_zero c
    rw [step_of_decode_error hp hlegal hw, checkFault, if_pos hne, hcode]
    exact meets_takeFault c
  | ok i =>
    rw [hw] at hread
    obtain ⟨hzero, hwf, hword⟩ := hread
    rw [step_of_decode_ok hp hlegal hw, checkFault, if_neg (not_not_intro hzero), ← hword]
    exact meets_exec i { s with pending := rest } hwf

/-- What no command changes: the configuration and the inputs to come. -/
def inputsOf (s : State) : Config × List Input := (s.cfg, s.pending)

theorem inputsOf_ignoresReply : IgnoresReply inputsOf := ⟨fun _ _ => rfl, fun _ _ => rfl⟩

theorem inputsOf_ignoresUnit (u : UnitId) : IgnoresUnit inputsOf u := by
  cases u with
  | glb => trivial
  | shb | det | oct | psh | fbe | ffe | rev => exact fun _ _ => rfl

/-- A step takes one input away and changes neither the rest of them nor the configuration. -/
theorem keeps_step {s : State} {w : CommandWord} {rest : List Input} (hp : s.pending = .command w :: rest)
    (hlegal : s.cfg.Legal) : Keeps inputsOf { s with pending := rest } (step s) := by
  cases hw : decode w with
  | error c =>
    rw [step_of_decode_error hp hlegal hw]
    exact keeps_takeFault inputsOf_ignoresReply
  | ok i =>
    rw [step_of_decode_ok hp hlegal hw]
    exact keeps_exec inputsOf_ignoresReply i (inputsOf_ignoresUnit i.unit)

/-- Settles O12: the decoder makes steps 1 to 4 of the check, each command steps 5 and 6 before its rule. -/
theorem commandsFaultByCheckOrder : Obligations.CommandsFaultByCheckOrder := by
  intro s w rest hp hlegal
  obtain ⟨hfault, hreplies⟩ := meets_step hp hlegal
  refine ⟨hfault, fun hzero t ht => ?_⟩
  obtain ⟨v, hresponses⟩ := hreplies hzero t ht
  have hinputs : (t.cfg, t.pending) = (s.cfg, rest) := keeps_step hp hlegal t ht
  obtain ⟨hcfg, hpending⟩ := Prod.mk.inj hinputs
  exact ⟨v, hresponses, hpending, hcfg⟩

end Sys2Proof.Laws
end

section
/-! The power of two primitive as a whole (R65): its value at the ends of its octaves. -/

namespace Sys2Proof.Laws

open Sys2Proof.Machine

theorem pow2negQ15_zero : pow2negQ15 0 = 32768 := rfl

theorem pow2negQ15_le (x : Nat) : pow2negQ15 x ≤ 32768 := pow2negQ15_zero ▸ pow2negQ15_antitone (Nat.zero_le x)

/-- One octave on is one shift more of the same value. -/
theorem pow2negQ15_add_octave {x : Nat} (hx : x < 983040) : pow2negQ15 (x + 65536) = pow2negQ15 x / 2 := by
  have hoctave : (x + 65536) / 65536 = x / 65536 + 1 := by omega
  have hplace : (x + 65536) % 65536 = x % 65536 := by omega
  rw [pow2negQ15_eq_octaveValue, pow2negQ15_eq_octaveValue, hoctave, hplace, if_pos (by omega), if_pos (by omega),
    pow_succ, Nat.div_div_eq_div_mul]

theorem pow2negQ15_of_ge {x : Nat} (hx : 1048576 ≤ x) : pow2negQ15 x = 0 := by
  rw [pow2negQ15_eq_octaveValue, if_neg (by omega)]

/-- Settles O57. -/
theorem powerOfTwoPrimitiveDecreases : Obligations.PowerOfTwoPrimitiveDecreases :=
  ⟨pow2negQ15_zero, fun _ _ hle => pow2negQ15_antitone hle, fun _ => pow2negQ15_add_octave, fun _ => pow2negQ15_of_ge⟩

end Sys2Proof.Laws
end

section
/-! The coefficients of REV contract (R123), and its filter states stay in their ranges (R133, R134). -/

namespace Sys2Proof.Laws

open Sys2Proof.Machine Sys2Proof.Claims

theorem at4_ext {α : Type} {p q : Quad α} (h : ∀ k, at4 p k = at4 q k) : p = q :=
  (quad_eq_of_at4 h).trans (quad_eq_of_at4 fun _ => rfl).symm

theorem forall_of_at4 {α : Type} {q : Quad α} {P : α → Prop} (h : ∀ k, P (at4 q k)) : q.Forall P := ⟨h 0, h 1, h 2, h 3⟩

/-- The filter of a line passes at most what it gets: the numerators of its two floor divisions add up to at most
`32768 · (GDC + GNY)`. -/
theorem dampInput_add_dampPole_le {gdc gny : Nat} (hdc : gdc ≤ 32768) (hle : gny ≤ gdc) :
    dampInput gdc gny + dampPole gdc gny ≤ 32768 := by
  by_cases hsum : gdc + gny = 0
  · rw [dampInput_of_sum_eq_zero hsum, dampPole_of_sum_eq_zero hsum]
    decide
  · have hproduct : gdc * gny ≤ 32768 * gny := Nat.mul_le_mul_right gny hdc
    have hnumerators : 2 * gdc * gny + (gdc - gny) * 32768 ≤ 32768 * (gdc + gny) := by
      rw [Nat.mul_assoc]
      omega
    calc dampInput gdc gny + dampPole gdc gny
        = 2 * gdc * gny / (gdc + gny) + (gdc - gny) * 32768 / (gdc + gny) :=
          congrArg₂ (· + ·) (if_neg hsum) (if_neg hsum)
      _ ≤ (2 * gdc * gny + (gdc - gny) * 32768) / (gdc + gny) := Nat.div_add_div_le_add_div ..
      _ ≤ 32768 := Nat.div_le_of_le_mul (hnumerators.trans_eq (Nat.mul_comm ..))

/-- Equal gains need no damping filter. -/
theorem dampPole_self (g : Nat) : dampPole g g = 0 := by
  by_cases hsum : g + g = 0
  · exact dampPole_of_sum_eq_zero hsum
  · rw [dampPole, if_neg hsum, Nat.sub_self, Nat.zero_mul, Nat.zero_div]

theorem dampInput_self (g : Nat) : dampInput g g = g := by
  by_cases hsum : g + g = 0
  · rw [dampInput_of_sum_eq_zero hsum]
    omega
  · rw [dampInput, if_neg hsum, ← Nat.two_mul]
    exact Nat.mul_div_cancel_left g (by omega)

theorem revRecompute_gdc_le (cfg : Config) (u : Rev) (k : Fin 4) : at4 (revRecompute cfg u).gdc k ≤ 32768 := by
  rw [revRecompute_gdc]
  split
  · exact Nat.zero_le _
  · exact pow2negQ15_le _

theorem revRecompute_gc_add_gp_le {cfg : Config} {u : Rev} (hfs : 0 < u.fs) (hny : 0 < cfg.t60ny) (k : Fin 4) :
    at4 (revRecompute cfg u).gc k + at4 (revRecompute cfg u).gp k ≤ 32768 := by
  rw [revRecompute_gc, revRecompute_gp]
  exact dampInput_add_dampPole_le (revRecompute_gdc_le cfg u k) (revRecompute_gny_le_gdc hfs hny k)

/-- A decay no longer than T60NY is the same at both ends of the spectrum. -/
theorem revRecompute_gny_eq_gdc {cfg : Config} {u : Rev} (h : u.time ≤ cfg.t60ny) (k : Fin 4) :
    at4 (revRecompute cfg u).gny k = at4 (revRecompute cfg u).gdc k := by
  rw [revRecompute_gny, revRecompute_gdc, Nat.min_eq_right h]

theorem revRecompute_of_time_eq_zero {cfg : Config} {u : Rev} (h : u.time = 0) (k : Fin 4) :
    at4 (revRecompute cfg u).gdc k = 0 ∧ at4 (revRecompute cfg u).gny k = 0 ∧ at4 (revRecompute cfg u).gc k = 0 ∧
      at4 (revRecompute cfg u).gp k = 0 := by
  have hgdc : at4 (revRecompute cfg u).gdc k = 0 := (revRecompute_gdc cfg u k).trans (if_pos h)
  have hgny : at4 (revRecompute cfg u).gny k = 0 := (revRecompute_gny cfg u k).trans (if_pos h)
  rw [revRecompute_gc, revRecompute_gp, hgdc, hgny]
  exact ⟨rfl, rfl, dampInput_self 0, dampPole_self 0⟩

theorem rev_fs_pos {s : State} (h : s.Inv) (hinit : s.rev.inited = true) : 0 < s.rev.fs :=
  (fsMin_pos_of_legal h.legal).trans_le (h.rev hinit).fs.1

/-- Settles O54: the coefficients are those of the recompute step. -/
theorem reverbCoefficientsContract : Obligations.ReverbCoefficientsContract := by
  intro s h hinit k
  have hfs := rev_fs_pos h hinit
  have hny := t60ny_pos_of_legal h.legal
  rw [← (h.rev hinit).derived]
  refine ⟨revRecompute_gny_le_gdc hfs hny k, revRecompute_gc_add_gp_le hfs hny k, fun htime => ?_,
    fun htime => revRecompute_of_time_eq_zero htime k⟩
  rw [revRecompute_gp, revRecompute_gc, revRecompute_gny_eq_gdc (u := s.rev) htime]
  exact ⟨dampPole_self _, dampInput_self _⟩

/-! The filter states. -/

theorem sample_toInt_bounds (x : Sample) : -32768 ≤ x.toInt ∧ x.toInt ≤ 32767 := by
  have hlo := BitVec.le_toInt x
  have hhi := BitVec.toInt_lt (x := x)
  omega

theorem revTaps_bounds (cfg : Config) (u : Rev) (k : Fin 4) :
    -32768 ≤ at4 (revTaps cfg u) k ∧ at4 (revTaps cfg u) k ≤ 32767 := by
  rw [revTaps, at4_zip]
  exact sample_toInt_bounds _

/-- Half a signed sum of four samples (R132). -/
theorem tdiv_two_bounds {a : Int} (h : -131072 ≤ a ∧ a ≤ 131072) : -65536 ≤ tdiv a 2 ∧ tdiv a 2 ≤ 65536 := by
  rw [tdiv_eq_int_tdiv]
  exact tdiv_mem_bounds (by decide) (by omega) (by omega)

theorem revMix_bounds {t : Quad Int} (h : ∀ k, -32768 ≤ at4 t k ∧ at4 t k ≤ 32767) (k : Fin 4) :
    -65536 ≤ at4 (revMix t) k ∧ at4 (revMix t) k ≤ 65536 := by
  have h0 : -32768 ≤ t.q0 ∧ t.q0 ≤ 32767 := h 0
  have h1 : -32768 ≤ t.q1 ∧ t.q1 ≤ 32767 := h 1
  have h2 : -32768 ≤ t.q2 ∧ t.q2 ≤ 32767 := h 2
  have h3 : -32768 ≤ t.q3 ∧ t.q3 ≤ 32767 := h 3
  match k with
  | 0 | 1 | 2 | 3 => exact tdiv_two_bounds (by omega)

/-- A sum with weights of at most 1 in all of two numbers in a range around 0 lies in the range. -/
theorem weighted_tdiv_bounds {p q : Nat} {a b lo hi : Int} (hpq : p + q ≤ 32768) (hlo : lo ≤ 0) (hhi : 0 ≤ hi)
    (ha : lo ≤ a ∧ a ≤ hi) (hb : lo ≤ b ∧ b ≤ hi) :
    lo ≤ (p * a + q * b).tdiv 32768 ∧ (p * a + q * b).tdiv 32768 ≤ hi := by
  obtain ⟨halo, hahi⟩ := ha
  obtain ⟨hblo, hbhi⟩ := hb
  have hweights : (p : Int) + q ≤ 32768 := by exact_mod_cast hpq
  have hlow : 32768 * lo ≤ ((p : Int) + q) * lo := Int.mul_le_mul_of_nonpos_right hweights hlo
  have hhigh : ((p : Int) + q) * hi ≤ 32768 * hi := Int.mul_le_mul_of_nonneg_right hweights hhi
  rw [Int.add_mul] at hlow hhigh
  have hplo : (p : Int) * lo ≤ p * a := Int.mul_le_mul_of_nonneg_left halo (by omega)
  have hphi : (p : Int) * a ≤ p * hi := Int.mul_le_mul_of_nonneg_left hahi (by omega)
  have hqlo : (q : Int) * lo ≤ q * b := Int.mul_le_mul_of_nonneg_left hblo (by omega)
  have hqhi : (q : Int) * b ≤ q * hi := Int.mul_le_mul_of_nonneg_left hbhi (by omega)
  exact tdiv_mem_bounds (by decide) (by omega) (by omega)

/-- The damping filters keep their range (R133). -/
theorem revDamp_bounds {u : Rev} {m : Quad Int} (hcoeff : ∀ k, at4 u.gc k + at4 u.gp k ≤ 32768)
    (hm : ∀ k, -65536 ≤ at4 m k ∧ at4 m k ≤ 65536) (hz : ∀ k, -65536 ≤ at4 u.z k ∧ at4 u.z k ≤ 65536) (k : Fin 4) :
    -65536 ≤ at4 (revDamp u m) k ∧ at4 (revDamp u m) k ≤ 65536 := by
  rw [at4_revDamp]
  exact weighted_tdiv_bounds (hcoeff k) (by omega) (by omega) (hm k) (hz k)

theorem quadSum_bounds {t : Quad Int} (h : ∀ k, -32768 ≤ at4 t k ∧ at4 t k ≤ 32767) :
    -131072 ≤ quadSum t ∧ quadSum t ≤ 131068 := by
  have h0 : -32768 ≤ t.q0 ∧ t.q0 ≤ 32767 := h 0
  have h1 : -32768 ≤ t.q1 ∧ t.q1 ≤ 32767 := h 1
  have h2 : -32768 ≤ t.q2 ∧ t.q2 ≤ 32767 := h 2
  have h3 : -32768 ≤ t.q3 ∧ t.q3 ≤ 32767 := h 3
  rw [quadSum]
  omega

/-- A fraction `a / 32768` of a difference lies between 0 and the difference. -/
theorem fraction_tdiv_bounds {a : Nat} (ha : a ≤ 32768) (v : Int) :
    min 0 v ≤ (a * v).tdiv 32768 ∧ (a * v).tdiv 32768 ≤ max 0 v := by
  have ha' : (a : Int) ≤ 32768 := by exact_mod_cast ha
  rcases Int.le_total 0 v with hv | hv
  · rw [min_eq_left hv, max_eq_right hv]
    exact tdiv_mem_bounds (by decide) (Int.mul_nonneg (by omega) hv) (Int.mul_le_mul_of_nonneg_right ha' hv)
  · rw [min_eq_right hv, max_eq_left hv]
    exact tdiv_mem_bounds (by decide) (Int.mul_le_mul_of_nonpos_right ha' hv)
      (Int.mul_nonpos_of_nonneg_of_nonpos (by omega) hv)

/-- The tone filter moves towards its input, not past it (R134). -/
theorem revTone_bounds {cfg : Config} {tcz sm : Int} (htca : cfg.tca ≤ 32768)
    (htcz : -33554432 ≤ tcz ∧ tcz ≤ 33554432) (hsm : -131072 ≤ sm ∧ sm ≤ 131068) :
    -33554432 ≤ revTone cfg tcz sm ∧ revTone cfg tcz sm ≤ 33554432 := by
  have hmove := fraction_tdiv_bounds htca (sm * 256 - tcz)
  rw [revTone_eq]
  omega

end Sys2Proof.Laws
end

section
/-! The ticks of a grain cycle: the recompute step gives the geometry of a cycle (R79, R82), a tick of the cycle leads to
the next one, and the last to the cycle load (R81, R83, R90). -/

namespace Sys2Proof.Laws

open Sys2Proof.Machine Sys2Proof.Claims

/-- A cycle makes at most one step a tick: the rate is at most 1. -/
theorem grainRecompute_dy_le (gc : GrainConfig) (u : Grain) : (grainRecompute gc u).dy ≤ gc.cycle := by
  have hprq : (grainRecompute gc u).prq ≤ 32768 := pow2negQ15_le _
  have hrate : ((grainRecompute gc u).prq - 16384) * gc.cycle ≤ 16384 * gc.cycle :=
    Nat.mul_le_mul_right gc.cycle (by omega)
  change (((grainRecompute gc u).prq - 16384) * gc.cycle + 8192) / 16384 ≤ gc.cycle
  omega

/-- The cycle load starts a cycle with the steps of the derived registers. -/
theorem grainCycleLoad_atTick {gc : GrainConfig} {u : Grain} (hcycle : 0 < gc.cycle) (h : grainRecompute gc u = u) :
    (grainCycleLoad u).AtTick gc u.dy := by
  have hk2 : u.k2init = kMin + stepsDone u.dy gc.cycle gc.blend := by rw [← h]; rfl
  have hk1 : u.k1init = u.k2init + u.dy := by rw [← h]; rfl
  have hd1 : u.d1 = 2 * u.dy - gc.cycle := by rw [← h]; rfl
  have hd2 : u.d2 = 2 * ((u.dy : Int) - gc.cycle) := by rw [← h]; rfl
  have hd3 : u.d3 = 2 * u.dy := by rw [← h]; rfl
  have hdy : u.dy ≤ gc.cycle := by rw [← h]; exact grainRecompute_dy_le gc u
  refine ⟨hdy, hcycle, hd2, hd3, ?_, ?_, ?_⟩
  · rw [grainCycleLoad_d, grainCycleLoad_i, hd1, stepsDone_zero hcycle]
    omega
  · rw [grainCycleLoad_k1, grainCycleLoad_i, stepsDone_zero hcycle, hk1, hk2, Nat.add_zero]
  · rw [grainCycleLoad_k2, grainCycleLoad_i, Nat.zero_min, stepsDone_zero hcycle, hk2, Nat.add_zero]

theorem grainStep_k2 (gc : GrainConfig) (u : Grain) :
    (grainStep gc u).k2 = if 0 < u.d ∧ u.i < gc.blend then u.k2 - 1 else u.k2 := by
  unfold grainStep
  split
  next hd => exact (if_congr (and_iff_right hd) rfl rfl).symm
  next hd => exact (if_neg fun h => hd h.1).symm

/-- A tick that does not end the cycle: the main tap and the accumulator follow the rate, and the blend tap steps with the
main tap inside the blend region. -/
theorem atTick_grainStep {gc : GrainConfig} {u : Grain} {dy : Nat} (h : u.AtTick gc dy) (hi : u.i + 1 < gc.cycle) :
    (grainStep gc u).AtTick gc dy ∧ (grainStep gc u).i = u.i + 1 := by
  obtain ⟨hdy, -, had2, had3, hd, hk1, hk2⟩ := h
  have hcycle : 0 < gc.cycle := Nat.zero_lt_of_lt hi
  have hrate : AtRateTick dy gc.cycle (u.k1 + stepsDone dy gc.cycle u.i) u.i u :=
    ⟨rfl, by omega, hd, had2, had3⟩
  obtain ⟨hi', hk1', hd', had2', had3'⟩ := hrate.tick hcycle hdy
  have hdone := stepsDone_mono dy gc.cycle hi.le
  rw [stepsDone_cycle hcycle] at hdone
  refine ⟨⟨hdy, hi'.trans_lt hi, had2', had3', ?_, ?_, ?_⟩, hi'⟩
  · rw [hi']
    exact hd'
  · rw [hi', hk1']
    omega
  · have hstep := accumulatorAt_pos_iff hcycle hdy u.i
    have hsteps := stepsDone_succ_eq_or hcycle hdy u.i
    rw [accumulatorAt, ← hd] at hstep
    rw [grainStep_k2, hi']
    by_cases hblend : u.i < gc.blend
    · have hnow : min u.i gc.blend = u.i := by omega
      have hnext : min (u.i + 1) gc.blend = u.i + 1 := by omega
      have hmono := stepsDone_mono dy gc.cycle (show u.i + 1 ≤ gc.blend from hblend)
      rw [hnow] at hk2
      rw [hnext]
      simp only [hstep, hblend, and_true, kMin] at hk2 ⊢
      split <;> omega
    · have hsame : min (u.i + 1) gc.blend = min u.i gc.blend := by omega
      rw [if_neg fun h => hblend h.2, hsame]
      exact hk2

theorem grainAdvance_of_lt {gc : GrainConfig} {u : Grain} (hi : u.i + 1 ≠ gc.cycle) :
    grainAdvance gc u = grainStep gc u := (grainAdvance_eq gc u).trans (if_neg hi)

theorem grainAdvance_of_last {gc : GrainConfig} {u : Grain} (hi : u.i + 1 = gc.cycle) :
    grainAdvance gc u = grainCycleLoad u := by
  obtain ⟨k1, k2, d, hstep⟩ := grainStep_frame gc u
  rw [grainAdvance_eq, if_pos hi, hstep]
  rfl

/-- The dynamic registers are determined by the geometry of the cycle and the phase. -/
theorem eq_of_atTick {gc : GrainConfig} {u : Grain} {dy i k1 k2 : Nat} {d ad2 ad3 : Int} (hu : u.AtTick gc dy)
    (hv : ({ u with i := i, k1 := k1, k2 := k2, d := d, ad2 := ad2, ad3 := ad3 } : Grain).AtTick gc dy) (hi : i = u.i) :
    ({ u with i := i, k1 := k1, k2 := k2, d := d, ad2 := ad2, ad3 := ad3 } : Grain) = u := by
  obtain ⟨-, -, had2, had3, hd, hk1, hk2⟩ := hu
  obtain ⟨-, -, had2', had3', hd', hk1', hk2'⟩ := hv
  subst hi
  have hk1eq : k1 = u.k1 := Nat.add_right_cancel (hk1'.trans hk1.symm)
  have hk2eq : k2 = u.k2 := Nat.add_right_cancel (hk2'.trans hk2.symm)
  rw [hk1eq, hk2eq, show d = u.d from hd'.trans hd.symm, show ad2 = u.ad2 from had2'.trans had2.symm,
    show ad3 = u.ad3 from had3'.trans had3.symm]

/-- A tick writes the dynamic registers only. -/
theorem grainAdvance_frame (gc : GrainConfig) (u : Grain) : ∃ i k1 k2 d ad2 ad3,
    grainAdvance gc u = { u with i := i, k1 := k1, k2 := k2, d := d, ad2 := ad2, ad3 := ad3 } := by
  by_cases hi : u.i + 1 = gc.cycle
  · exact ⟨_, _, _, _, _, _, grainAdvance_of_last hi⟩
  · obtain ⟨k1, k2, d, hstep⟩ := grainStep_frame gc u
    rw [grainAdvance_of_lt hi, hstep]
    exact ⟨_, _, _, _, _, _, rfl⟩

/-- Every tick of an initialised unit leads to a tick. -/
theorem grainAdvance_atTick {gc : GrainConfig} {u : Grain} (hder : grainRecompute gc u = u)
    (h : ∃ dy, u.AtTick gc dy) : ∃ dy, (grainAdvance gc u).AtTick gc dy := by
  obtain ⟨dy, h⟩ := h
  have hi : u.i < gc.cycle := h.2.1
  by_cases hlast : u.i + 1 = gc.cycle
  · rw [grainAdvance_of_last hlast]
    exact ⟨u.dy, grainCycleLoad_atTick (Nat.zero_lt_of_lt hi) hder⟩
  · rw [grainAdvance_of_lt hlast]
    exact ⟨dy, (atTick_grainStep h (by omega)).1⟩

end Sys2Proof.Laws
end

section
/-! The ranges of the derived and dynamic registers (10_state.md), and what the narrow mix of a grain unit follows from
(R92). -/

namespace Sys2Proof.Laws

open Sys2Proof.Machine Sys2Proof.Claims

/-! The derived registers of a grain unit (R79, R80). -/

section
variable (gc : GrainConfig) (u : Grain)

theorem grainRecompute_prq_bounds : 16384 ≤ (grainRecompute gc u).prq ∧ (grainRecompute gc u).prq ≤ 32768 :=
  ⟨half_le_pow2negQ15 (Nat.sub_le ..), pow2negQ15_le _⟩

theorem grainRecompute_k2init : (grainRecompute gc u).k2init =
    10 + stepsDone (grainRecompute gc u).dy gc.cycle gc.blend := rfl

theorem grainRecompute_k1init : (grainRecompute gc u).k1init =
    (grainRecompute gc u).k2init + (grainRecompute gc u).dy := rfl

theorem grainRecompute_rates : (grainRecompute gc u).d1 = 2 * (grainRecompute gc u).dy - gc.cycle ∧
    (grainRecompute gc u).d2 = 2 * (((grainRecompute gc u).dy : Int) - gc.cycle) ∧
    (grainRecompute gc u).d3 = 2 * (grainRecompute gc u).dy := ⟨rfl, rfl, rfl⟩

/-- The two weights share the gain, each rounded down. -/
theorem grainRecompute_weights_le (hmix : u.mix ≤ 32768) :
    (grainRecompute gc u).dryw + (grainRecompute gc u).wetw ≤ u.gain := by
  have hdry : u.gain * (32768 - u.mix) + u.gain * u.mix = u.gain * 32768 := by
    rw [← Nat.mul_add, Nat.sub_add_cancel hmix]
  change u.gain * (32768 - u.mix) / 32768 + u.gain * u.mix / 32768 ≤ u.gain
  omega

end

section
variable {s : State} (h : s.Inv) {g : GrainId} (hinit : (s.grain g).inited = true)
include h hinit

/-- The derived registers of an initialised grain unit (R29, R80). -/
theorem grain_derived_ranges :
    let u := s.grain g
    let gc := s.cfg.grain g
    16384 ≤ u.prq ∧ u.prq ≤ 32768 ∧ u.dy ≤ gc.cycle ∧
      10 ≤ u.k1init ∧ u.k1init ≤ 10 + gc.blend + gc.cycle ∧ 10 ≤ u.k2init ∧ u.k2init ≤ 10 + gc.blend ∧
      -(gc.cycle : Int) ≤ u.d1 ∧ u.d1 ≤ gc.cycle ∧ -2 * (gc.cycle : Int) ≤ u.d2 ∧ u.d2 ≤ 0 ∧
      0 ≤ u.d3 ∧ u.d3 ≤ 2 * gc.cycle ∧ u.dryw + u.wetw ≤ u.gain := by
  intro u gc
  obtain ⟨hcycle, -⟩ := grainConfig_legal h.legal g
  have hgood := h.grain g hinit
  have hderived : grainRecompute gc u = u := hgood.derived
  obtain ⟨hprqlo, hprqhi⟩ := grainRecompute_prq_bounds gc u
  have hdy := grainRecompute_dy_le gc u
  have hk2 := grainRecompute_k2init gc u
  have hk1 := grainRecompute_k1init gc u
  obtain ⟨hd1, hd2, hd3⟩ := grainRecompute_rates gc u
  have hweights := grainRecompute_weights_le gc u hgood.mix
  rw [hderived] at hprqlo hprqhi hdy hk2 hk1 hd1 hd2 hd3 hweights
  have hsteps : stepsDone u.dy gc.cycle gc.blend ≤ gc.blend := stepsDone_le_self hcycle hdy gc.blend
  refine ⟨hprqlo, hprqhi, hdy, ?_, ?_, ?_, ?_, ?_, ?_, ?_, ?_, ?_, ?_, hweights⟩ <;> omega

/-- The accumulator and its two increments (R29, R81). -/
theorem grain_accumulator_ranges :
    let u := s.grain g
    let gc := s.cfg.grain g;
    -2 * (gc.cycle : Int) + 1 ≤ u.d ∧ u.d ≤ 2 * gc.cycle ∧
      -2 * (gc.cycle : Int) ≤ u.ad2 ∧ u.ad2 ≤ 0 ∧ 0 ≤ u.ad3 ∧ u.ad3 ≤ 2 * gc.cycle := by
  intro u gc
  obtain ⟨hcycle, -⟩ := grainConfig_legal h.legal g
  obtain ⟨dy, htick⟩ : ∃ dy, u.AtTick gc dy := (h.grain g hinit).tick
  obtain ⟨hdy, -, had2, had3, hd, -⟩ := htick
  have hlo : 2 * ((dy : Int) - gc.cycle) < u.d := (lt_accumulatorAt hcycle u.i).trans_eq hd.symm
  have hhi : u.d ≤ 2 * dy := hd.trans_le (accumulatorAt_le hcycle u.i)
  refine ⟨?_, ?_, ?_, ?_, ?_, ?_⟩ <;> omega

end

/-! `SCALE` of FBE (R98). -/

theorem isqrt_le_of_le_sq {v r : Nat} (h : v ≤ r * r) : isqrt v ≤ r := by
  rw [isqrt_eq_sqrt, ← Nat.sqrt_eq r]
  exact Nat.sqrt_le_sqrt h

theorem le_isqrt_of_sq_le {v r : Nat} (h : r * r ≤ v) : r ≤ isqrt v := by
  rw [isqrt_eq_sqrt]
  exact Nat.le_sqrt.2 h

/-- Two Q15 factors scale down. -/
theorem q15_mul_le {a b c : Nat} (ha : a ≤ 32768) (hb : b ≤ c) : a * b / 32768 ≤ c :=
  Nat.div_le_of_le_mul (Nat.mul_le_mul ha hb)

/-- The root of a product with the square of the gain is at most the gain. -/
theorem fbeRecompute_scale_le {cfg : Config} {u : Fbe} (hkfb : cfg.kfb ≤ 32768) :
    (fbeRecompute cfg u).scale ≤ u.gain := by
  refine q15_mul_le hkfb (Nat.div_le_of_le_mul (isqrt_le_of_le_sq ?_))
  calc u.gain * u.gain * (2 ^ 30 - u.decay * u.decay)
      ≤ u.gain * u.gain * 2 ^ 30 := Nat.mul_le_mul_left _ (Nat.sub_le ..)
    _ = 32768 * u.gain * (32768 * u.gain) := by ring

/-! `SCALE` and `W` of FFE (R110). -/

/-- The power number 0 alone, and more. -/
theorem sq_le_powerSum (r : Nat) {n : Nat} (hn : 0 < n) : 32768 * 32768 ≤ powerSum r n := by
  induction n, hn using Nat.le_induction with
  | base => exact (Nat.zero_add _).ge
  | succ n _ ih => exact ih.trans (Nat.le_add_right ..)

theorem decayPower_le {r : Nat} (hr : r ≤ 32768) (n : Nat) : decayPower r n ≤ 32768 := by
  induction n with
  | zero => exact Nat.le_refl _
  | succ n ih => exact q15_mul_le ih hr

theorem ffeRecompute_scale_le {u : Ffe} (hrepeats : 0 < u.repeats) : (ffeRecompute u).scale ≤ u.gain := by
  refine Nat.div_le_of_le_mul ?_
  rw [Nat.mul_comm]
  exact Nat.mul_le_mul_right u.gain (le_isqrt_of_sq_le (sq_le_powerSum u.decay hrepeats))

theorem octet_get_of_ge (o : Octet Nat) {k : Nat} (hk : 8 ≤ k) : o.get k = 0 := List.getD_eq_default o.toList 0 hk

theorem ffeRecompute_w (u : Ffe) (k : Nat) : (ffeRecompute u).w.get k =
    if k < 8 ∧ k < u.repeats then (ffeRecompute u).scale * decayPower u.decay k / 32768 else 0 := by
  by_cases hk : k < 8
  · exact (octet_get_ofFn _ hk).trans (if_congr (and_iff_right hk).symm rfl rfl)
  · exact (octet_get_of_ge _ (Nat.le_of_not_lt hk)).trans (if_neg fun h => hk h.1).symm

/-! The table of ranges. -/

section
variable {s : State} (h : s.Inv)
include h

theorem kfb_le_of_inv : s.cfg.kfb ≤ 32768 := by
  obtain ⟨-, -, -, -, -, -, -, -, -, -, -, -, hkfb, -⟩ := h.legal
  exact hkfb

theorem off_lt_of_le_pred {o : Nat} (ho : o ≤ s.cfg.n - 1) : o < s.cfg.n := by
  have hcursor := h.cursor
  omega

theorem grain_ranges {g : GrainId} (hinit : (s.grain g).inited = true) :
    let u := s.grain g
    let gc := s.cfg.grain g
    u.i < gc.cycle ∧ 10 ≤ u.k1 ∧ u.k1 < s.cfg.n ∧ 10 ≤ u.k2 ∧ u.k2 < s.cfg.n := by
  intro u gc
  obtain ⟨-, hk2lo, -, hk1lo, -, hk1, hk2⟩ := grainTapsStayInBounds g s h hinit
  obtain ⟨dy, -, hi, -⟩ := (h.grain g hinit).tick
  exact ⟨hi, hk1lo, off_lt_of_le_pred h hk1, hk2lo, off_lt_of_le_pred h hk2⟩

theorem fbe_scale_le (hinit : s.fbe.inited = true) : s.fbe.scale ≤ s.fbe.gain := by
  have hscale := fbeRecompute_scale_le (u := s.fbe) (kfb_le_of_inv h)
  rwa [(h.fbe hinit).derived] at hscale

theorem ffe_scale_le (hinit : s.ffe.inited = true) : s.ffe.scale ≤ s.ffe.gain := by
  have hgood := h.ffe hinit
  have hscale := ffeRecompute_scale_le (u := s.ffe) hgood.repeats.1
  rwa [hgood.derived] at hscale

/-- The weights of FFE: at most `SCALE`, and 0 from `REPEATS` on. -/
theorem ffe_w_le (hinit : s.ffe.inited = true) (k : Nat) :
    s.ffe.w.get k ≤ 32768 ∧ (s.ffe.repeats ≤ k → s.ffe.w.get k = 0) := by
  have hgood := h.ffe hinit
  have hscale := (ffe_scale_le h hinit).trans hgood.gain
  have hw := ffeRecompute_w s.ffe k
  rw [hgood.derived] at hw
  rw [hw]
  refine ⟨?_, fun hle => if_neg fun hlt => Nat.not_lt.2 hle hlt.2⟩
  split
  · exact q15_mul_le hscale (decayPower_le hgood.decay k)
  · exact Nat.zero_le _

end

/-- Settles O20, unit by unit. -/
theorem registersStayInTheirRanges : Obligations.RegistersStayInTheirRanges := by
  intro s h
  refine ⟨fun _ => h.cursor, fun g hinit => ?_, fun hinit => ?_, fun hinit => ?_, fun hinit => ?_⟩
  · obtain ⟨hfs, hshift, hmix, hgain, -, -⟩ := h.grain g hinit
    obtain ⟨hi, hk1lo, hk1, hk2lo, hk2⟩ := grain_ranges h hinit
    exact ⟨⟨hfs.1, hfs.2, hshift.1, hshift.2, hmix, hgain⟩, grain_derived_ranges h hinit, hi, hk1lo, hk1, hk2lo, hk2,
      grain_accumulator_ranges h hinit⟩
  · obtain ⟨hfs, hms, hoff, hdecay, hgain, -⟩ := h.fbe hinit
    exact ⟨hfs.1, hfs.2, hms, hoff.1, off_lt_of_le_pred h hoff.2, hdecay, hgain, (fbe_scale_le h hinit).trans hgain⟩
  · obtain ⟨hfs, hms, hoff, hrepeats, hdecay, hgain, -⟩ := h.ffe hinit
    exact ⟨hfs.1, hfs.2, hms, hoff.1, off_lt_of_le_pred h hoff.2, hrepeats.1, hrepeats.2, hdecay, hgain,
      (ffe_scale_le h hinit).trans hgain, fun k => (ffe_w_le h hinit k).1, fun k => (ffe_w_le h hinit k).2⟩
  · obtain ⟨hfs, htime, hgain, hderived, hz, htcz⟩ := h.rev hinit
    refine ⟨hfs.1, hfs.2, htime, hgain, h.rcursor, htcz.1, htcz.2, fun k => ?_⟩
    have hgdc := revRecompute_gdc_le s.cfg s.rev k
    rw [hderived] at hgdc
    obtain ⟨hgny, hsum, -, -⟩ := reverbCoefficientsContract s h hinit k
    exact ⟨hgdc, hgny.trans hgdc, by omega, by omega, at4_of_forall hz k⟩

/-! The mix of a grain unit with the linear crossfade (R92). -/

theorem tap_bounds (s : State) (c : BitVec 16) (o : Nat) : -32768 ≤ tap s c o ∧ tap s c o ≤ 32767 := sample_toInt_bounds _

/-- The grain output of two samples is a sample. -/
theorem grainOutput_linear_bounds {gc : GrainConfig} (hxf : gc.xf = .linear) (cfg : Config) (i : Nat) {t1 t2 : Int}
    (h1 : -32768 ≤ t1 ∧ t1 ≤ 32767) (h2 : -32768 ≤ t2 ∧ t2 ≤ 32767) :
    -32768 ≤ grainOutput cfg gc i t1 t2 ∧ grainOutput cfg gc i t1 t2 ≤ 32767 := by
  rw [grainOutput]
  split
  next hi =>
    have hbetween := crossfade_linear_between hxf hi cfg t1 t2
    omega
  next => exact h1

/-- A fault of PROC does not touch GOVF. -/
theorem govf_faulted {s : State} {k : Nat} (hk : k = 5 ∨ k = 6) :
    (faulted k s).status &&& 0x100#32 = s.status &&& 0x100#32 := by
  change (s.status ||| BitVec.ofNat 32 (2 ^ k)) &&& 0x100#32 = _
  rw [BitVec.and_or_distrib_right]
  rcases hk with rfl | rfl <;> exact BitVec.or_zero

/-- Settles O38: weights of at most 1 in all keep the mix of two samples in 16 bits, so the narrowing is exact. -/
theorem linearGrainNeverSetsGovf : Obligations.LinearGrainNeverSetsGovf := by
  intro g c x s t h hxf ht
  by_cases hinit : (s.grain g).inited = true ∧ s.shb.inited = true
  · obtain ⟨hinit, hshb⟩ := hinit
    by_cases hop : c.toNat < s.cfg.n ∧ IsSample x
    · obtain ⟨hc, hx⟩ := hop
      obtain ⟨-, -, hk1, -, hk2⟩ := grain_ranges h hinit
      obtain ⟨-, -, -, -, -, -, -, -, -, -, -, -, -, hweights⟩ := grain_derived_ranges h hinit
      have hgr := grainOutput_linear_bounds hxf s.cfg (s.grain g).i (tap_bounds s c (s.grain g).k1)
        (tap_bounds s c (s.grain g).k2)
      have hy := weighted_tdiv_bounds (hweights.trans (h.grain g hinit).gain) (by omega) (by omega) hx hgr
      rw [exec_grainProc_of_taps hinit hshb hc hx hk1 hk2, grainFinish_eq] at ht
      dsimp only at ht
      rw [if_pos (by omega)] at ht
      cases ht
      exact congrArg (· &&& _) (setGrain_status ..)
    · rw [exec_grainProc_of_bad_operand hinit hshb (by rwa [not_and_or, Nat.not_lt] at hop)] at ht
      cases ht
      exact govf_faulted (.inr rfl)
  · rw [not_and_or, Bool.not_eq_true, Bool.not_eq_true] at hinit
    rw [exec_grainProc_of_not_inited hinit] at ht
    cases ht
    exact govf_faulted (.inl rfl)

end Sys2Proof.Laws
end

section
/-! The words of the commands (R49 to R56, R61): `decode` undoes `encode`, and rejects the words that steps 1 to 4 of the
check reject. -/

namespace Sys2Proof.Laws

open Sys2Proof.Machine Sys2Proof.Claims

/-- The reading of a word's fields by the unit's number (R52). -/
def decodeUnit (unit : Nat) (op : BitVec 4) (sel : BitVec 8) (aux : BitVec 16) (data : Word32) : Decoded :=
  match unit with
  | 0 => decodeGlb op sel aux data
  | 1 => decodeShb op sel aux data
  | 2 => decodeDet op sel aux data
  | 3 => decodeOct op sel aux data
  | 4 => decodePsh op sel aux data
  | 5 => decodeFbe op sel aux data
  | 6 => decodeFfe op sel aux data
  | 7 => decodeRev op sel aux data
  | _ => .error .eUnit

theorem decode_packWord (u o : BitVec 4) (sel : BitVec 8) (aux : BitVec 16) (data : Word32) :
    decode (packWord u o sel aux data) = decodeUnit u.toNat o sel aux data := by
  unfold decode
  simp only [unitField_packWord, opField_packWord, selField_packWord, auxField_packWord, dataField_packWord]
  rfl

/-! Each format accepts the fields that `encode` writes for it (R51). -/

theorem formatZ_zero (i : Instr) : formatZ 0 0 0 i = .ok i := if_pos ⟨rfl, rfl, rfl⟩

theorem formatI_zero (data : Word32) (mk : Word32 → Instr) : formatI 0 0 data mk = .ok (mk data) := if_pos ⟨rfl, rfl⟩

theorem formatS_zero (data : Word32) (mk : Word32 → Instr) : formatS 0 data mk = .ok (mk data) := if_pos rfl

theorem formatP_zero (aux : BitVec 16) (data : Word32) (mk : BitVec 16 → Word32 → Instr) :
    formatP 0 aux data mk = .ok (mk aux data) := if_pos rfl

theorem formatQ_zero (data : Word32) (mk : Word32 → Instr) : formatQ 0 0 data mk = .ok (mk data) := if_pos ⟨rfl, rfl⟩

theorem formatW_switchData (on : Bool) (mk : Bool → Instr) : formatW 0 0 (switchData on) mk = .ok (mk on) := by
  cases on <;> rfl

theorem formatG_of_lt {count : Nat} {sel : BitVec 8} (h : sel.toNat < count) (mk : BitVec 8 → Instr) :
    formatG count sel 0 0 mk = .ok (mk sel) := (if_pos h).trans (if_pos ⟨rfl, rfl⟩)

/-- Settles O1: the fields of a command's word lead to its row, and the row's format accepts them. -/
theorem encodedCommandsDecodeBack : Obligations.EncodedCommandsDecodeBack := by
  intro i hwf
  cases i with
  | glbNop | shbInit => exact (decode_packWord ..).trans (formatZ_zero _)
  | detInit _ | octInit _ | pshInit _ | fbeInit _ | ffeInit _ | revInit _ =>
    exact (decode_packWord ..).trans (formatI_zero ..)
  | detSetShift _ | detSetMix _ | detSetGain _ | octSetShift _ | octSetMix _ | octSetGain _ | pshSetShift _ | pshSetMix _
  | pshSetGain _ | fbeSetDelayMs _ | fbeSetDecay _ | fbeSetGain _ | fbeSetDelaySmp _ | ffeSetDelayMs _
  | ffeSetRepeats _ | ffeSetDecay _ | ffeSetGain _ | ffeSetDelaySmp _ | revSetTime _ | revSetGain _ =>
    exact (decode_packWord ..).trans (formatS_zero ..)
  | glbPeek _ | shbPeek _ | detGet _ | detPeek _ | octGet _ | octPeek _ | pshGet _ | pshPeek _ | fbeGet _ | fbePeek _
  | ffeGet _ | ffePeek _ | revGet _ | revPeek _ =>
    exact (decode_packWord ..).trans (formatG_of_lt (of_decide_eq_true hwf) _)
  | detSwitch _ | octSwitch _ | pshSwitch _ | fbeSwitch _ | ffeSwitch _ | revSwitch _ =>
    exact (decode_packWord ..).trans (formatW_switchData ..)
  | shbRead _ _ | shbIndex _ _ | detProc _ _ | octProc _ _ | pshProc _ _ | fbeProc _ _ | ffeProc _ _ =>
    exact (decode_packWord ..).trans (formatP_zero ..)
  | shbPush _ | revProc _ => exact (decode_packWord ..).trans (formatQ_zero ..)

/-- Settles O2: it is the second half of reading every word right. -/
theorem decodedWordsEncodeBack : Obligations.DecodedWordsEncodeBack := by
  intro w i hw
  have hread := reads_decode w
  rw [hw] at hread
  obtain ⟨-, hwf, hword⟩ := hread
  exact ⟨hwf, hword⟩

/-- Settles O3: reading a word right is giving it the code of the check, or reading it when there is none. -/
theorem decoderRejectsByCheckOrder : Obligations.DecoderRejectsByCheckOrder := by
  intro w
  have hread := reads_decode w
  cases hw : decode w with
  | error c =>
    rw [hw] at hread
    exact hread.symm
  | ok i =>
    rw [hw] at hread
    exact hread.1.symm

/-- Settles O4: each word is the word that `encode` gives the command. -/
theorem specWordsDecodeAsListed : Obligations.SpecWordsDecodeAsListed :=
  ⟨encodedCommandsDecodeBack (.glbPeek 3) rfl, encodedCommandsDecodeBack (.shbRead 63 10) rfl,
    encodedCommandsDecodeBack (.detInit 48000) rfl, encodedCommandsDecodeBack (.octSetShift 1200) rfl,
    encodedCommandsDecodeBack (.pshProc 16 1700) rfl, encodedCommandsDecodeBack (.fbeProc 5 0xFFFFFFFE) rfl,
    encodedCommandsDecodeBack (.ffeSetDelaySmp 12) rfl, encodedCommandsDecodeBack (.revProc 0xFFFFEF6E) rfl⟩

end Sys2Proof.Laws
end

section
/-! The step and hardware reset (R20, R149, R150). -/

namespace Sys2Proof.Laws

open Sys2Proof.Machine Sys2Proof.Claims

/-- Settles O6. -/
theorem stepRunsTheDecodedCommand : Obligations.StepRunsTheDecodedCommand :=
  fun _ _ _ _ hp hlegal hw => step_of_decode_ok hp hlegal hw

theorem step_of_idle {s : State} (hp : s.pending = []) : step s = .next s := by
  cases s
  cases hp
  rfl

theorem step_of_illegal {s : State} {w : CommandWord} {rest : List Input} (hp : s.pending = .command w :: rest)
    (h : ¬s.cfg.Legal) : step s = .refused .illegalConfig := by
  cases s
  cases hp
  exact if_neg h

/-- Settles O7, by the first input presented. -/
theorem stepIdlesOrRefusesIllegalConfiguration : Obligations.StepIdlesOrRefusesIllegalConfiguration :=
  ⟨fun _ => step_of_idle, fun _ _ _ => step_of_illegal⟩

theorem step_of_hardReset {s : State} {rest : List Input} (hp : s.pending = .hardReset :: rest) :
    step s = .next (State.hardReset { s with pending := rest }) := by
  cases s
  cases hp
  rfl

theorem inited_resetWith (cfg : Config) (u : Nat) : inited (State.resetWith cfg) u = false := by
  unfold inited
  split <;> rfl

/-- Hardware reset leaves the inputs and the responses, which the INITED bits do not depend on. -/
theorem inited_hardReset (s : State) (u : Nat) : inited (State.hardReset s) u = false := inited_resetWith s.cfg u

/-- Settles O8. -/
theorem hardwareResetUninitialisesEveryUnit : Obligations.HardwareResetUninitialisesEveryUnit :=
  ⟨fun cfg => ⟨rfl, rfl, inited_resetWith cfg⟩, fun s rest hp =>
    ⟨_, step_of_hardReset hp, rfl, inited_hardReset { s with pending := rest }, rfl, rfl, rfl⟩⟩

/-! The sizes of a legal configuration. -/

theorem n_bounds_of_legal {cfg : Config} (h : cfg.Legal) : kMin < cfg.n ∧ cfg.n ≤ 65536 := by
  obtain ⟨-, hmax, hkmin, -⟩ := h
  simp only [kMin] at hkmin ⊢
  omega

theorem n_pos_of_legal {cfg : Config} (h : cfg.Legal) : 0 < cfg.n := Nat.zero_lt_of_lt (n_bounds_of_legal h).1

theorem lineLen_pos_of_legal {cfg : Config} (h : cfg.Legal) : 0 < cfg.lineLen :=
  Nat.zero_lt_of_lt (line_delay_lt_lineLen h 0)

/-- Right after hardware reset no unit is initialised, and the cursors and memories have the model's reset values. -/
theorem inv_resetWith {cfg : Config} (h : cfg.Legal) : (State.resetWith cfg).Inv where
  legal := h
  status := BitVec.zero_and
  cursor := n_pos_of_legal h
  hb := ⟨rfl, nofun⟩
  rcursor := lineLen_pos_of_legal h
  rb := ⟨⟨rfl, nofun⟩, ⟨rfl, nofun⟩, ⟨rfl, nofun⟩, ⟨rfl, nofun⟩⟩
  grain g hg := by cases g <;> cases hg
  fbe := nofun
  ffe := nofun
  rev := nofun

theorem default_legal : Config.default.Legal := Tests.witness_FeedbackEchoInitSetsDefaults

/-- Settles O9. -/
theorem invariantHoldsAtReset : Obligations.InvariantHoldsAtReset :=
  ⟨inv_resetWith default_legal, inv_resetWith Tests.tiny_legal⟩

end Sys2Proof.Laws
end

section
/-! The commands of unit GLB (R138, R139). -/

namespace Sys2Proof.Laws

open Sys2Proof.Machine Sys2Proof.Claims

/-- GLB.PEEK answers the register the selector names, in every state. -/
theorem exec_glbPeek {s : State} {sel : BitVec 8} {v : Word32} (h : (glbRegisters s)[sel.toNat]? = some v) :
    exec (.glbPeek sel) s = .next (replied v s) := by
  change execGlbPeek sel s = _
  rw [execGlbPeek, readRegister_of_getElem? s h]

/-- A one-bit register shifted to place `k` is bit `k` of the word. -/
theorem getLsbD_bitValue_shiftLeft (b : Bool) {k : Nat} (hk : k < 32) (u : Nat) :
    (bitValue b <<< k).getLsbD u = (b && decide (u = k)) := by
  have hbit : ∀ j, (bitValue b).getLsbD j = (b && decide (j = 0)) := fun j => by
    cases b <;> simp [bitValue]
  rw [BitVec.getLsbD_shiftLeft, hbit]
  cases b
  · simp
  · grind

/-- Bit `u` of INITMAP is INITED of unit number `u`. -/
theorem getLsbD_initMap (s : State) (u : Nat) : (initMap s).getLsbD u = inited s u := by
  simp only [initMap, BitVec.getLsbD_or, getLsbD_bitValue_shiftLeft, Nat.reduceLT]
  unfold inited
  split <;> simp_all

/-- Settles O25: the four registers in the order of their selectors. -/
theorem globalCommandsAnswer : Obligations.GlobalCommandsAnswer := fun s =>
  ⟨answer_eq_replied 0 s, exec_glbPeek rfl, exec_glbPeek rfl, exec_glbPeek rfl, initMap s, exec_glbPeek rfl,
    getLsbD_initMap s⟩

end Sys2Proof.Laws
end

section
/-! The 57 commands by their operation and not by their unit (R53, R78). The six effect units have INIT, SET, GET, SWITCH
and PEEK alike, and the three grain units PROC too: `instr_cases` lists the sixteen kinds of command that are left, and
each kind gets one equation for what `exec` does. -/

namespace Sys2Proof.Laws

open Sys2Proof.Machine Sys2Proof.Claims

/-- The six effect units (R52): a grain unit, FBE, FFE or REV, in this order. -/
abbrev EffectUnit := GrainId ⊕ Unit ⊕ Unit ⊕ Unit

namespace EffectUnit

abbrev grain (g : GrainId) : EffectUnit := .inl g
abbrev fbe : EffectUnit := .inr (.inl ())
abbrev ffe : EffectUnit := .inr (.inr (.inl ()))
abbrev rev : EffectUnit := .inr (.inr (.inr ()))

/-- What is said of each effect unit. -/
def pick {α : Type} (grain : GrainId → α) (fbe ffe rev : α) : EffectUnit → α
  | .inl g => grain g
  | .inr (.inl _) => fbe
  | .inr (.inr (.inl _)) => ffe
  | .inr (.inr (.inr _)) => rev

/-! The commands. -/

def unit : EffectUnit → UnitId := pick (fun | .det => .det | .oct => .oct | .psh => .psh) .fbe .ffe .rev

def init (fs : Word32) : EffectUnit → Instr := pick (.grainInit fs) (.fbeInit fs) (.ffeInit fs) (.revInit fs)

def get (sel : BitVec 8) : EffectUnit → Instr := pick (.grainGet sel) (.fbeGet sel) (.ffeGet sel) (.revGet sel)

def switch (on : Bool) : EffectUnit → Instr := pick (.grainSwitch on) (.fbeSwitch on) (.ffeSwitch on) (.revSwitch on)

def peek (sel : BitVec 8) : EffectUnit → Instr := pick (.grainPeek sel) (.fbePeek sel) (.ffePeek sel) (.revPeek sel)

def setGrain (v : Word32) : Nat → GrainId → Instr
  | 0 => .grainSetShift v
  | 1 => .grainSetMix v
  | _ => .grainSetGain v

def setFbe (v : Word32) : Nat → Instr
  | 0 => .fbeSetDelayMs v
  | 1 => .fbeSetDecay v
  | 2 => .fbeSetGain v
  | _ => .fbeSetDelaySmp v

def setFfe (v : Word32) : Nat → Instr
  | 0 => .ffeSetDelayMs v
  | 1 => .ffeSetRepeats v
  | 2 => .ffeSetDecay v
  | 3 => .ffeSetGain v
  | _ => .ffeSetDelaySmp v

def setRev (v : Word32) : Nat → Instr
  | 0 => .revSetTime v
  | _ => .revSetGain v

/-- SET of parameter number `k` (R54); a number past the table stands for the last parameter of the unit. -/
def set (v : Word32) (k : Nat) : EffectUnit → Instr := pick (setGrain v k) (setFbe v k) (setFfe v k) (setRev v k)

end EffectUnit

/-- A property of all commands, by their kinds. -/
theorem instr_cases {P : Instr → Prop} (glbNop : P .glbNop) (glbPeek : ∀ sel, P (.glbPeek sel)) (shbInit : P .shbInit)
    (shbPush : ∀ x, P (.shbPush x)) (shbRead : ∀ c o, P (.shbRead c o)) (shbIndex : ∀ c o, P (.shbIndex c o))
    (shbPeek : ∀ sel, P (.shbPeek sel)) (init : ∀ (e : EffectUnit) fs, P (e.init fs))
    (set : ∀ (e : EffectUnit) v k, P (e.set v k)) (get : ∀ (e : EffectUnit) sel, P (e.get sel))
    (switch : ∀ (e : EffectUnit) on, P (e.switch on)) (peek : ∀ (e : EffectUnit) sel, P (e.peek sel))
    (grainProc : ∀ g c x, P (.grainProc c x g)) (fbeProc : ∀ c x, P (.fbeProc c x)) (ffeProc : ∀ c x, P (.ffeProc c x))
    (revProc : ∀ x, P (.revProc x)) (i : Instr) : P i := by
  cases i with
  | glbNop => exact glbNop
  | glbPeek sel => exact glbPeek sel
  | shbInit => exact shbInit
  | shbPush x => exact shbPush x
  | shbRead c o => exact shbRead c o
  | shbIndex c o => exact shbIndex c o
  | shbPeek sel => exact shbPeek sel
  | detInit fs => exact init (.grain .det) fs
  | octInit fs => exact init (.grain .oct) fs
  | pshInit fs => exact init (.grain .psh) fs
  | fbeInit fs => exact init .fbe fs
  | ffeInit fs => exact init .ffe fs
  | revInit fs => exact init .rev fs
  | detSetShift v => exact set (.grain .det) v 0
  | octSetShift v => exact set (.grain .oct) v 0
  | pshSetShift v => exact set (.grain .psh) v 0
  | detSetMix v => exact set (.grain .det) v 1
  | octSetMix v => exact set (.grain .oct) v 1
  | pshSetMix v => exact set (.grain .psh) v 1
  | detSetGain v => exact set (.grain .det) v 2
  | octSetGain v => exact set (.grain .oct) v 2
  | pshSetGain v => exact set (.grain .psh) v 2
  | fbeSetDelayMs v => exact set .fbe v 0
  | fbeSetDecay v => exact set .fbe v 1
  | fbeSetGain v => exact set .fbe v 2
  | fbeSetDelaySmp v => exact set .fbe v 3
  | ffeSetDelayMs v => exact set .ffe v 0
  | ffeSetRepeats v => exact set .ffe v 1
  | ffeSetDecay v => exact set .ffe v 2
  | ffeSetGain v => exact set .ffe v 3
  | ffeSetDelaySmp v => exact set .ffe v 4
  | revSetTime v => exact set .rev v 0
  | revSetGain v => exact set .rev v 1
  | detGet sel => exact get (.grain .det) sel
  | octGet sel => exact get (.grain .oct) sel
  | pshGet sel => exact get (.grain .psh) sel
  | fbeGet sel => exact get .fbe sel
  | ffeGet sel => exact get .ffe sel
  | revGet sel => exact get .rev sel
  | detSwitch on => exact switch (.grain .det) on
  | octSwitch on => exact switch (.grain .oct) on
  | pshSwitch on => exact switch (.grain .psh) on
  | fbeSwitch on => exact switch .fbe on
  | ffeSwitch on => exact switch .ffe on
  | revSwitch on => exact switch .rev on
  | detPeek sel => exact peek (.grain .det) sel
  | octPeek sel => exact peek (.grain .oct) sel
  | pshPeek sel => exact peek (.grain .psh) sel
  | fbePeek sel => exact peek .fbe sel
  | ffePeek sel => exact peek .ffe sel
  | revPeek sel => exact peek .rev sel
  | detProc c x => exact grainProc .det c x
  | octProc c x => exact grainProc .oct c x
  | pshProc c x => exact grainProc .psh c x
  | fbeProc c x => exact fbeProc c x
  | ffeProc c x => exact ffeProc c x
  | revProc x => exact revProc x

/-! The operation number and the unit of each kind (R53, R56). -/

section
variable (e : EffectUnit) (v : Word32) (k : Nat) (sel : BitVec 8) (on : Bool) (g : GrainId) (c : BitVec 16)

@[simp] theorem opOf_glbNop : opOf (encode .glbNop) = 0 := opOf_packWord ..
@[simp] theorem opOf_glbPeek : opOf (encode (.glbPeek sel)) = 9 := opOf_packWord ..
@[simp] theorem opOf_shbInit : opOf (encode .shbInit) = 1 := opOf_packWord ..
@[simp] theorem opOf_shbPush : opOf (encode (.shbPush v)) = 6 := opOf_packWord ..
@[simp] theorem opOf_shbRead : opOf (encode (.shbRead c v)) = 7 := opOf_packWord ..
@[simp] theorem opOf_shbIndex : opOf (encode (.shbIndex c v)) = 8 := opOf_packWord ..
@[simp] theorem opOf_shbPeek : opOf (encode (.shbPeek sel)) = 9 := opOf_packWord ..
@[simp] theorem opOf_fbeProc : opOf (encode (.fbeProc c v)) = 5 := opOf_packWord ..
@[simp] theorem opOf_ffeProc : opOf (encode (.ffeProc c v)) = 5 := opOf_packWord ..
@[simp] theorem opOf_revProc : opOf (encode (.revProc v)) = 5 := opOf_packWord ..

@[simp] theorem opOf_grainProc : opOf (encode (.grainProc c v g)) = 5 := by
  cases g <;> exact opOf_packWord ..

@[simp] theorem opOf_init : opOf (encode (e.init v)) = 1 := by
  rcases e with (_ | _ | _) | _ | _ | _ <;> exact opOf_packWord ..

@[simp] theorem opOf_set : opOf (encode (e.set v k)) = 2 := by
  rcases e with (_ | _ | _) | _ | _ | _ <;> rcases k with _ | _ | _ | _ | k <;> exact opOf_packWord ..

@[simp] theorem opOf_get : opOf (encode (e.get sel)) = 3 := by
  rcases e with (_ | _ | _) | _ | _ | _ <;> exact opOf_packWord ..

@[simp] theorem opOf_switch : opOf (encode (e.switch on)) = 4 := by
  rcases e with (_ | _ | _) | _ | _ | _ <;> exact opOf_packWord ..

@[simp] theorem opOf_peek : opOf (encode (e.peek sel)) = 9 := by
  rcases e with (_ | _ | _) | _ | _ | _ <;> exact opOf_packWord ..

@[simp] theorem selOf_peek : selOf (encode (e.peek sel)) = sel.toNat := by
  rcases e with (_ | _ | _) | _ | _ | _ <;> exact selOf_packWord ..

@[simp] theorem unit_init : (e.init v).unit = e.unit := by
  rcases e with (_ | _ | _) | _ | _ | _ <;> rfl

@[simp] theorem unit_set : (e.set v k).unit = e.unit := by
  rcases e with (_ | _ | _) | _ | _ | _ <;> rcases k with _ | _ | _ | _ | k <;> rfl

@[simp] theorem unit_get : (e.get sel).unit = e.unit := by
  rcases e with (_ | _ | _) | _ | _ | _ <;> rfl

@[simp] theorem unit_switch : (e.switch on).unit = e.unit := by
  rcases e with (_ | _ | _) | _ | _ | _ <;> rfl

@[simp] theorem unit_peek : (e.peek sel).unit = e.unit := by
  rcases e with (_ | _ | _) | _ | _ | _ <;> rfl

@[simp] theorem unit_grainProc : (Instr.grainProc c v g).unit = (EffectUnit.grain g).unit := by
  cases g <;> rfl

/-- An effect unit is neither GLB nor SHB. -/
theorem unit_ne : e.unit ≠ .glb ∧ e.unit ≠ .shb := by
  rcases e with (_ | _ | _) | _ | _ | _ <;> exact ⟨nofun, nofun⟩

end

/-- The `UNIT` field of every command's word is the number of its unit (R52). -/
theorem unitOf_encode (i : Instr) : unitOf (encode i) = unitNumber i.unit := by
  cases i <;> exact unitOf_packWord ..

/-! What each kind does to the state. -/

/-- The grain unit that INIT gives (R84). -/
def initialGrain (cfg : Config) (gc : GrainConfig) (fs : Nat) : Grain :=
  { grainCycleLoad (grainRecompute gc { Grain.reset with
      fs := fs, shift := gc.shiftDef, mix := cfg.mixDef, gain := cfg.ggainDef }) with
    enable := false, inited := true }

/-- The FBE that INIT gives (R99). -/
def initialFbe (cfg : Config) (fs : Nat) : Fbe :=
  let ms := clampNat cfg.fbDefMs 0 cfg.msMax
  { fbeRecompute cfg { Fbe.reset with
      fs := fs, ms := ms, off := tapFor cfg fs ms, decay := cfg.fbDefDecay, gain := cfg.fbDefGain } with
    enable := false, inited := true }

/-- The FFE that INIT gives (R111). -/
def initialFfe (cfg : Config) (fs : Nat) : Ffe :=
  let ms := clampNat cfg.ffDefMs 0 cfg.msMax
  { ffeRecompute { Ffe.reset with
      fs := fs, ms := ms, off := tapFor cfg fs ms, repeats := cfg.ffDefRepeats, decay := cfg.ffDefDecay,
      gain := cfg.ffDefGain } with
    enable := false, inited := true }

/-- The REV that INIT gives (R125). -/
def initialRev (cfg : Config) (fs : Nat) : Rev :=
  { revClear (revRecompute cfg { Rev.reset with fs := fs, time := cfg.rvDefTime, gain := cfg.rvDefGain }) with
    rcur := 0, enable := false, inited := true }

/-- A grain unit with parameter number `k` stored. -/
def grainStore (gc : GrainConfig) (v : Word32) (u : Grain) : Nat → Grain
  | 0 => { u with shift := clamped v gc.shiftMin gc.shiftMax }
  | 1 => { u with mix := clamped v 0 32768 }
  | _ => { u with gain := clamped v 0 32768 }

def fbeStore (cfg : Config) (v : Word32) (u : Fbe) : Nat → Fbe
  | 0 => { u with ms := clamped v 0 cfg.msMax, off := tapFor cfg u.fs (clamped v 0 cfg.msMax) }
  | 1 => { u with decay := clamped v 0 cfg.decayFbMax }
  | 2 => { u with gain := clamped v 0 32768 }
  | _ => { u with off := clamped v 10 (cfg.n - 1), ms := msOfTap cfg u.fs (clamped v 10 (cfg.n - 1)) }

def ffeStore (cfg : Config) (v : Word32) (u : Ffe) : Nat → Ffe
  | 0 => { u with ms := clamped v 0 cfg.msMax, off := tapFor cfg u.fs (clamped v 0 cfg.msMax) }
  | 1 => { u with repeats := clamped v 1 8 }
  | 2 => { u with decay := clamped v 0 32768 }
  | 3 => { u with gain := clamped v 0 32768 }
  | _ => { u with off := clamped v 10 (cfg.n - 1), ms := msOfTap cfg u.fs (clamped v 10 (cfg.n - 1)) }

def revStore (cfg : Config) (v : Word32) (u : Rev) : Nat → Rev
  | 0 => { u with time := clamped v 0 cfg.rtMax }
  | _ => { u with gain := clamped v 0 32768 }

namespace EffectUnit

/-- `INITED` of the unit. -/
def isInited (s : State) : EffectUnit → Bool :=
  pick (fun g => (s.grain g).inited) s.fbe.inited s.ffe.inited s.rev.inited

/-- The state with the unit as INIT leaves it. -/
def started (fs : Word32) (s : State) : EffectUnit → State :=
  pick (fun g => s.setGrain g (initialGrain s.cfg (s.cfg.grain g) (clamped fs s.cfg.fsMin s.cfg.fsMax)))
    { s with fbe := initialFbe s.cfg (clamped fs s.cfg.fsMin s.cfg.fsMax) }
    { s with ffe := initialFfe s.cfg (clamped fs s.cfg.fsMin s.cfg.fsMax) }
    { s with rev := initialRev s.cfg (clamped fs s.cfg.fsMin s.cfg.fsMax) }

/-- The divisors of INIT are not 0. -/
def startOk (cfg : Config) (fs : Word32) : EffectUnit → Bool :=
  pick (fun _ => true) true true
    (revDivisorOk cfg { Rev.reset with fs := clamped fs cfg.fsMin cfg.fsMax, time := cfg.rvDefTime })

/-- The state with a parameter stored and the unit recomputed; REV is cleared too. -/
def stored (v : Word32) (k : Nat) (s : State) : EffectUnit → State :=
  pick (fun g => s.setGrain g (grainRecompute (s.cfg.grain g) (grainStore (s.cfg.grain g) v (s.grain g) k)))
    { s with fbe := fbeRecompute s.cfg (fbeStore s.cfg v s.fbe k) }
    { s with ffe := ffeRecompute (ffeStore s.cfg v s.ffe k) }
    { s with rev := revClear (revRecompute s.cfg (revStore s.cfg v s.rev k)) }

/-- The divisors of the SET are not 0. -/
def divisorOk (v : Word32) (k : Nat) (s : State) : EffectUnit → Bool :=
  pick (fun _ => true) (k < 3 || s.fbe.fs ≠ 0) (k < 4 || s.ffe.fs ≠ 0)
    (revDivisorOk s.cfg (revStore s.cfg v s.rev k))

/-- The state with `ENABLE` of the unit written. -/
def switched (on : Bool) (s : State) : EffectUnit → State :=
  pick (fun g => s.setGrain g { s.grain g with enable := on }) { s with fbe := { s.fbe with enable := on } }
    { s with ffe := { s.ffe with enable := on } } { s with rev := { s.rev with enable := on } }

/-- What GET can read. -/
def params (s : State) : EffectUnit → List Word32 :=
  pick (fun g => grainParams (s.grain g)) (fbeParams s.fbe) (ffeParams s.ffe) (revParams s.rev)

/-- What PEEK can read. -/
def registers (s : State) : EffectUnit → List Word32 :=
  pick (fun g => grainRegisters (s.grain g)) (fbeRegisters s.fbe) (ffeRegisters s.ffe) (revRegisters s.rev)

end EffectUnit

/-- A command whose divisors are not 0 ends without fault in `s`; else the machine stops (log 9). -/
def guarded (ok : Bool) (s : State) : Result := if ok then answer 0 s else .fault .divisorZero

theorem withDivisor_eq_guarded (d : Nat) (s : State) : withDivisor d (answer 0 s) = guarded (d ≠ 0) s := by
  by_cases hd : d = 0
  · rw [decide_eq_false (not_not_intro hd)]
    exact if_pos hd
  · rw [decide_eq_true hd]
    exact if_neg hd

/-! The equations. -/

section
variable (s : State) (e : EffectUnit)

theorem exec_init (fs : Word32) : exec (e.init fs) s = guarded (e.startOk s.cfg fs) (e.started fs s) := by
  rcases e with g | _ | _ | _
  · exact exec_grainInit g fs s
  · rfl
  · rfl
  · rfl

theorem exec_set (v : Word32) (k : Nat) :
    exec (e.set v k) s = whenInited (e.isInited s) s (guarded (e.divisorOk v k s) (e.stored v k s)) := by
  rcases e with g | _ | _ | _
  · rcases k with _ | _ | k
    · exact exec_grainSetShift g v s
    · exact exec_grainSetMix g v s
    · exact exec_grainSetGain g v s
  · rcases k with _ | _ | _ | k
    case succ.succ.succ => exact congrArg (whenInited _ s) (withDivisor_eq_guarded ..)
    all_goals rfl
  · rcases k with _ | _ | _ | _ | k
    case succ.succ.succ.succ => exact congrArg (whenInited _ s) (withDivisor_eq_guarded ..)
    all_goals rfl
  · rcases k with _ | k <;> rfl

theorem exec_get (sel : BitVec 8) : exec (e.get sel) s = readRegister (e.isInited s) (e.params s) sel s := by
  rcases e with g | _ | _ | _
  · exact exec_grainGet g sel s
  all_goals rfl

theorem exec_switch (on : Bool) : exec (e.switch on) s = whenInited (e.isInited s) s (answer 0 (e.switched on s)) := by
  rcases e with g | _ | _ | _
  · exact exec_grainSwitch g on s
  all_goals rfl

theorem exec_peek (sel : BitVec 8) : exec (e.peek sel) s = readRegister (e.isInited s) (e.registers s) sel s := by
  rcases e with g | _ | _ | _
  · exact exec_grainPeek g sel s
  all_goals rfl

end

end Sys2Proof.Laws
end

section
/-! What a command can do when it gives a next state, once and for all commands (R15, R141): it takes a fault and changes
nothing else, or it answers, and has then done one of seven things to the state. -/

namespace Sys2Proof.Laws

open Sys2Proof.Machine Sys2Proof.Claims

/-- If `r` is a next state, a fault was taken in `s`, or the command answered in a state that has `P`. -/
def Ends (P : State → Prop) (s : State) (r : Result) : Prop :=
  ∀ t, r = .next t → (∃ c : FaultCode, t = faulted (codeNumber c) s) ∨ ∃ v s', P s' ∧ t = replied v s'

section
variable {P : State → Prop} {s : State}

theorem ends_fault {r : Fault} : Ends P s (.fault r) := fun _ h => by cases h

theorem ends_answer {v : Word32} {s' : State} (h : P s') : Ends P s (answer v s') := by
  intro t ht
  rw [answer_eq_replied] at ht
  cases ht
  exact .inr ⟨v, s', h, rfl⟩

theorem ends_takeFault (c : FaultCode) : Ends P s (takeFault c s) := by
  intro t ht
  rw [takeFault_eq_faulted] at ht
  cases ht
  exact .inl ⟨c, rfl⟩

theorem ends_guarded {ok : Bool} {s' : State} (h : P s') : Ends P s (guarded ok s') := by
  cases ok
  · exact ends_fault
  · exact ends_answer h

theorem ends_whenInited {b : Bool} {k : Result} (hk : b = true → Ends P s k) : Ends P s (whenInited b s k) := by
  cases b
  · exact ends_takeFault .eNoInit
  · exact hk rfl

theorem ends_whenOperand {b : Bool} {k : Result} (hk : b = true → Ends P s k) : Ends P s (whenOperand b s k) := by
  cases b
  · exact ends_takeFault .eOperand
  · exact hk rfl

theorem ends_readRegister {b : Bool} {regs : List Word32} {sel : BitVec 8} (h : P s) :
    Ends P s (readRegister b regs sel s) := by
  intro t ht
  rcases readRegister_next ht with ⟨_, -, -, ht⟩ | ⟨_, -, -, ht⟩ | ⟨-, ht⟩
  · exact ends_answer h t ht
  · exact ends_takeFault _ t ht
  · exact ends_takeFault _ t ht

theorem Ends.withTap {s' : State} {c o : Nat} {k : Int → Result} (hk : ∀ x, Ends P s (k x)) :
    Ends P s (withTap s' c o k) :=
  fun t h => hk _ t (withTap_next h).2.2

theorem Ends.ffeTaps {s' : State} {count n idx : Nat} {acc : Int} {k : Int → Result} (hk : ∀ x, Ends P s (k x)) :
    Ends P s (ffeTaps s' count n idx acc k) := fun t h =>
  have ⟨sum, hsum⟩ := ffeTaps_next h
  hk sum t hsum

end

/-- The inversion of `exec`. A command that gives a next state takes a fault, or answers in a state `s'` with `Q i s'`,
where `Q` holds of the seven things that commands do to the state, and of doing nothing. -/
theorem exec_next_cases {s : State} {Q : Instr → State → Prop} (read : ∀ i, opOf (encode i) ≠ 1 → Q i s)
    (shbInit : Q .shbInit { s with shb := { inited := true, cur := 0, hb := [] } })
    (shbPush : ∀ x, s.shb.inited = true → IsSample x → s.shb.cur < s.cfg.n →
      Q (.shbPush x) { s with shb := { s.shb with
        hb := s.shb.hb.write s.shb.cur (cellOf x.toInt), cur := nextCursor s.shb.cur s.cfg.n } })
    (init : ∀ (e : EffectUnit) fs, Q (e.init fs) (e.started fs s))
    (set : ∀ (e : EffectUnit) v k, e.isInited s = true → Q (e.set v k) (e.stored v k s))
    (switch : ∀ (e : EffectUnit) on, e.isInited s = true → Q (e.switch on) (e.switched on s))
    (grainProc : ∀ g c x y, (s.grain g).inited = true → Q (.grainProc c x g)
      ({ s with status := noteNarrowing y (wrap16 y) s.status }.setGrain g (grainAdvance (s.cfg.grain g) (s.grain g))))
    (revProc : ∀ x, s.rev.inited = true → IsSample x → Q (.revProc x) { s with rev := revTick s.cfg s.rev x.toInt })
    {i : Instr} {t : State} (h : exec i s = .next t) :
    (∃ c : FaultCode, t = faulted (codeNumber c) s) ∨ ∃ v s', Q i s' ∧ t = replied v s' := by
  suffices hends : Ends (Q i) s (exec i s) from hends t h
  clear h
  cases i using instr_cases with
  | glbNop => exact ends_answer (read _ (by simp))
  | glbPeek sel => exact ends_readRegister (read _ (by simp))
  | shbPeek sel => exact ends_readRegister (read _ (by simp))
  | shbInit => exact ends_answer shbInit
  | shbPush x =>
    refine ends_whenInited fun hinit => ends_whenOperand fun hx => ?_
    split
    · exact ends_answer (shbPush x hinit (sampleOk_iff.1 hx) ‹_›)
    · exact ends_fault
  | shbRead c o =>
    exact ends_whenInited fun _ => ends_whenOperand fun _ => .withTap fun _ => ends_answer (read _ (by simp))
  | shbIndex c o => exact ends_whenInited fun _ => ends_whenOperand fun _ => ends_answer (read _ (by simp))
  | init e fs => rw [exec_init]; exact ends_guarded (init e fs)
  | set e v k => rw [exec_set]; exact ends_whenInited fun hinit => ends_guarded (set e v k hinit)
  | get e sel => rw [exec_get]; exact ends_readRegister (read _ (by simp))
  | switch e on => rw [exec_switch]; exact ends_whenInited fun hinit => ends_answer (switch e on hinit)
  | peek e sel => rw [exec_peek]; exact ends_readRegister (read _ (by simp))
  | grainProc g c x =>
    rw [exec_grainProc]
    refine ends_whenInited fun hinit => ends_whenOperand fun _ => .withTap fun t1 => ?_
    have hfinish : ∀ gr, Ends (Q (.grainProc c x g)) s (grainFinish g (dataValue x) gr s) := fun gr =>
      ends_answer (grainProc g c x _ (Bool.and_eq_true_iff.1 hinit).1)
    split
    · exact .withTap fun t2 => hfinish _
    · exact hfinish _
  | fbeProc c x =>
    exact ends_whenInited fun _ => ends_whenOperand fun _ => .withTap fun _ => ends_answer (read _ (by simp))
  | ffeProc c x =>
    exact ends_whenInited fun _ => ends_whenOperand fun _ => .ffeTaps fun _ => ends_answer (read _ (by simp))
  | revProc x =>
    refine ends_whenInited fun hinit => ends_whenOperand fun hx => ?_
    split
    · exact ends_answer (revProc x hinit (sampleOk_iff.1 hx))
    · exact ends_fault

end Sys2Proof.Laws
end

section
/-! STATUS, the responses, INITED and the frame of every command, from its effect (R7, R23, R24). -/

namespace Sys2Proof.Laws

open Sys2Proof.Machine Sys2Proof.Claims

/-! STATUS. -/

/-- `v` is `w` with some of the bits 1 to 6 and 8 set (R23). -/
def GainsBits (w v : BitVec 32) : Prop := ∃ m : BitVec 32, m &&& ~~~statusMask = 0 ∧ v = w ||| m

theorem gainsBits_refl (w : BitVec 32) : GainsBits w w := ⟨0, BitVec.zero_and, BitVec.or_zero.symm⟩

theorem gainsBits_of_mask {w m : BitVec 32} (hm : m &&& ~~~statusMask = 0) : GainsBits w (w ||| m) := ⟨m, hm, rfl⟩

/-- The bit of each fault code exists. -/
theorem gainsBits_faulted (c : FaultCode) (s : State) : GainsBits s.status (faulted (codeNumber c) s).status := by
  refine gainsBits_of_mask ?_
  cases c <;> rfl

theorem gainsBits_noteNarrowing (y out : Int) (w : BitVec 32) : GainsBits w (noteNarrowing y out w) := by
  rw [noteNarrowing_eq]
  split
  · exact gainsBits_refl w
  · exact gainsBits_of_mask rfl

/-! What INIT, SET and SWITCH leave as it was. -/

section
variable (e : EffectUnit) (v : Word32) (k : Nat) (on : Bool) (s : State)

@[simp] theorem started_status : (e.started v s).status = s.status := by
  rcases e with (_ | _ | _) | _ | _ | _ <;> rfl

@[simp] theorem started_responses : (e.started v s).responses = s.responses := by
  rcases e with (_ | _ | _) | _ | _ | _ <;> rfl

@[simp] theorem stored_status : (e.stored v k s).status = s.status := by
  rcases e with (_ | _ | _) | _ | _ | _ <;> rfl

@[simp] theorem stored_responses : (e.stored v k s).responses = s.responses := by
  rcases e with (_ | _ | _) | _ | _ | _ <;> rfl

@[simp] theorem switched_status : (e.switched on s).status = s.status := by
  rcases e with (_ | _ | _) | _ | _ | _ <;> rfl

@[simp] theorem switched_responses : (e.switched on s).responses = s.responses := by
  rcases e with (_ | _ | _) | _ | _ | _ <;> rfl

end

/-- Every command gives one response and only sets bits of STATUS; a grain PROC sets GOVF at most. -/
theorem exec_gainsBits_responses {i : Instr} {s t : State} (h : exec i s = .next t) :
    GainsBits s.status t.status ∧ ∃ r, t.responses = r :: s.responses := by
  have hcases := exec_next_cases (Q := fun _ s' => GainsBits s.status s'.status ∧ s'.responses = s.responses)
    (read := fun _ _ => ⟨gainsBits_refl _, rfl⟩) (shbInit := ⟨gainsBits_refl _, rfl⟩) (shbPush := fun _ _ _ _ => ⟨gainsBits_refl _, rfl⟩)
    (init := fun e fs => ⟨by rw [started_status]; exact gainsBits_refl _, by rw [started_responses]⟩)
    (set := fun e v k _ => ⟨by rw [stored_status]; exact gainsBits_refl _, by rw [stored_responses]⟩)
    (switch := fun e on _ => ⟨by rw [switched_status]; exact gainsBits_refl _, by rw [switched_responses]⟩)
    (grainProc := fun g c x y _ => ⟨by rw [setGrain_status]; exact gainsBits_noteNarrowing .., by rw [setGrain_responses]⟩)
    (revProc := fun _ _ _ => ⟨gainsBits_refl _, rfl⟩) h
  rcases hcases with ⟨c, rfl⟩ | ⟨v, s', ⟨hbits, hresponses⟩, rfl⟩
  · exact ⟨gainsBits_faulted c s, _, rfl⟩
  · exact ⟨hbits, _, congrArg (_ :: ·) hresponses⟩

theorem step_gainsBits {s t : State} (h : step s = .next t) (hreset : s.pending.head? ≠ some .hardReset) :
    GainsBits s.status t.status := by
  rcases step_next h with ⟨-, rfl⟩ | ⟨rest, hp, -⟩ | ⟨w, rest, c, -, -, -, h⟩ | ⟨w, rest, i, -, -, -, h⟩
  · exact gainsBits_refl _
  · exact absurd (by rw [hp]; rfl) hreset
  · rw [takeFault_eq_faulted] at h
    cases h
    exact gainsBits_faulted c { s with pending := rest }
  · exact (exec_gainsBits_responses h).1

/-- Settles O13: STATUS only gains bits of the mask. -/
theorem statusBitsAreSticky : Obligations.StatusBitsAreSticky := by
  intro s t h hreset
  obtain ⟨m, hm, hstatus⟩ := step_gainsBits h hreset
  have hold : ∀ a b : Bool, (a && (a || b)) = a := by intro a b; cases a <;> simp
  have hnew : ∀ a b k : Bool, (b && !k) = false → ((a || b) && !(a || k)) = false := by
    intro a b k; cases a <;> cases b <;> simp
  rw [hstatus]
  refine ⟨BitVec.eq_of_getLsbD_eq fun j hj => ?_, BitVec.eq_of_getLsbD_eq fun j hj => ?_⟩
  · rw [BitVec.getLsbD_and, BitVec.getLsbD_or, hold]
  · have hbit : (m &&& ~~~statusMask).getLsbD j = (0#32).getLsbD j := by rw [hm]; rfl
    simp only [BitVec.getLsbD_and, BitVec.getLsbD_or, BitVec.getLsbD_not, BitVec.ofNat_eq_ofNat, BitVec.getLsbD_zero,
      hj, decide_true, Bool.true_and] at hbit ⊢
    exact hnew _ _ _ hbit

/-! The frame. -/

theorem sameUnit_refl (u : UnitId) (s : State) : SameUnit u s s := by
  cases u <;> trivial

/-- Writing one unit, STATUS or the responses does not touch the others. -/
theorem sameUnit_ignoresReply (u : UnitId) (s : State) : IgnoresReply (SameUnit u · s) := by
  cases u <;> exact ⟨fun _ _ => rfl, fun _ _ => rfl⟩

theorem sameUnit_ignoresUnit {u v : UnitId} (hne : u ≠ v) (s : State) : IgnoresUnit (SameUnit u · s) v := by
  cases v with
  | glb => trivial
  | shb | det | oct | psh | fbe | ffe | rev =>
    intro s' x
    cases u <;> first | rfl | exact absurd rfl hne

theorem sameUnit_of_ne {i : Instr} {s t : State} (h : exec i s = .next t) {u : UnitId} (hu : u ≠ i.unit) :
    SameUnit u t s := by
  have hkeeps : SameUnit u t s = SameUnit u s s :=
    keeps_exec (sameUnit_ignoresReply u s) i (sameUnit_ignoresUnit hu s) t h
  rw [hkeeps]
  exact sameUnit_refl u s

theorem exec_cfg_pending {i : Instr} {s t : State} (h : exec i s = .next t) : t.cfg = s.cfg ∧ t.pending = s.pending :=
  Prod.mk.inj (keeps_exec inputsOf_ignoresReply i (inputsOf_ignoresUnit i.unit) t h)

/-- Settles O15: the frame of every command, and what it does to STATUS and the responses. -/
theorem commandsTouchOnlyTheirUnit : Obligations.CommandsTouchOnlyTheirUnit := by
  intro i s t h
  obtain ⟨hcfg, hpending⟩ := exec_cfg_pending h
  obtain ⟨⟨m, -, hstatus⟩, r, hresponses⟩ := exec_gainsBits_responses h
  exact ⟨fun u hu => sameUnit_of_ne h hu, hcfg, hpending, m, r, hstatus, hresponses⟩

/-! INITED. -/

/-- The INITED bits depend on the units' `inited` fields only. -/
theorem inited_eq_of_bits {s t : State} (hshb : t.shb.inited = s.shb.inited)
    (hgrain : ∀ g, (t.grain g).inited = (s.grain g).inited) (hfbe : t.fbe.inited = s.fbe.inited)
    (hffe : t.ffe.inited = s.ffe.inited) (hrev : t.rev.inited = s.rev.inited) (u : Nat) : inited t u = inited s u := by
  match u with
  | 0 => rfl
  | 1 => exact hshb
  | 2 => exact hgrain .det
  | 3 => exact hgrain .oct
  | 4 => exact hgrain .psh
  | 5 => exact hfbe
  | 6 => exact hffe
  | 7 => exact hrev
  | _ + 8 => rfl

theorem inited_setGrain {s : State} {g : GrainId} {u : Grain} (h : u.inited = (s.grain g).inited) (k : Nat) :
    inited (s.setGrain g u) k = inited s k := by
  refine inited_eq_of_bits (by rw [setGrain_shb]) (fun g' => ?_) (by rw [setGrain_fbe]) (by rw [setGrain_ffe])
    (by rw [setGrain_rev]) k
  by_cases hg : g' = g
  · rw [hg, setGrain_grain_same, h]
  · rw [setGrain_grain_other _ _ _ _ hg]

/-- INIT sets the bit of its unit and no other. -/
theorem inited_started (e : EffectUnit) (fs : Word32) (s : State) (u : Nat) :
    inited (e.started fs s) u = (inited s u || unitNumber e.unit == u) := by
  rcases e with (_ | _ | _) | _ | _ | _
  all_goals
    match u with
    | 0 | 1 | 2 | 3 | 4 | 5 | 6 | 7 => first | exact (Bool.or_true _).symm | exact (Bool.or_false _).symm
    | _ + 8 => rfl

theorem inited_shbInit (s : State) (h : Memory) (u : Nat) :
    inited { s with shb := { inited := true, cur := 0, hb := h } } u = (inited s u || 1 == u) := by
  match u with
  | 1 => exact (Bool.or_true _).symm
  | 0 | 2 | 3 | 4 | 5 | 6 | 7 => exact (Bool.or_false _).symm
  | _ + 8 => rfl

theorem inited_stored (e : EffectUnit) (v : Word32) (k : Nat) (s : State) (u : Nat) :
    inited (e.stored v k s) u = inited s u := by
  rcases e with g | _ | _ | _
  · exact inited_setGrain (by rcases k with _ | _ | k <;> rfl) u
  · rcases k with _ | _ | _ | k <;> exact inited_eq_of_bits rfl (fun _ => rfl) rfl rfl rfl u
  · rcases k with _ | _ | _ | _ | k <;> exact inited_eq_of_bits rfl (fun _ => rfl) rfl rfl rfl u
  · rcases k with _ | k <;> exact inited_eq_of_bits rfl (fun _ => rfl) rfl rfl rfl u

theorem inited_switched (e : EffectUnit) (on : Bool) (s : State) (u : Nat) :
    inited (e.switched on s) u = inited s u := by
  rcases e with g | _ | _ | _
  · exact inited_setGrain (u := { s.grain g with enable := on }) rfl u
  all_goals exact inited_eq_of_bits rfl (fun _ => rfl) rfl rfl rfl u

/-- No command but INIT writes an INITED bit (R24). -/
theorem exec_inited_of_op_ne {i : Instr} {s t : State} (hop : opOf (encode i) ≠ 1) (h : exec i s = .next t) (u : Nat) :
    inited t u = inited s u := by
  have hcases := exec_next_cases (Q := fun i s' => opOf (encode i) ≠ 1 → inited s' u = inited s u)
    (read := fun _ _ _ => rfl) (shbInit := fun hne => absurd opOf_shbInit hne)
    (shbPush := fun _ _ _ _ _ => inited_eq_of_bits rfl (fun _ => rfl) rfl rfl rfl u)
    (init := fun e fs hne => absurd (opOf_init e fs) hne) (set := fun e v k _ _ => inited_stored e v k s u)
    (switch := fun e on _ _ => inited_switched e on s u)
    (grainProc := fun _ _ _ _ _ _ => inited_setGrain (grainAdvance_inited ..) u)
    (revProc := fun _ _ _ _ => inited_eq_of_bits rfl (fun _ => rfl) rfl rfl rfl u) h
  rcases hcases with ⟨c, rfl⟩ | ⟨v, s', hsame, rfl⟩
  · rfl
  · exact hsame hop

/-- The commands whose operation is INIT. -/
theorem eq_init_of_op {i : Instr} (hop : opOf (encode i) = 1) :
    i = .shbInit ∨ ∃ (e : EffectUnit) (fs : Word32), i = e.init fs := by
  cases i using instr_cases with
  | shbInit => exact .inl rfl
  | init e fs => exact .inr ⟨e, fs, rfl⟩
  | _ => simp at hop

theorem guarded_next {ok : Bool} {s t : State} (h : guarded ok s = .next t) : ok = true ∧ t = replied 0 s := by
  cases ok
  · cases h
  · exact ⟨rfl, (Host.Outcome.next.inj ((answer_eq_replied 0 s).symm.trans h)).symm⟩

theorem exec_inited {i : Instr} {s t : State} (h : exec i s = .next t) (u : Nat) :
    inited t u = (inited s u || (unitNumber i.unit == u && opOf (encode i) == 1)) := by
  by_cases hop : opOf (encode i) = 1
  · rw [hop, beq_self_eq_true, Bool.and_true]
    rcases eq_init_of_op hop with rfl | ⟨e, fs, rfl⟩
    · cases h
      exact inited_shbInit s [] u
    · rw [exec_init] at h
      obtain ⟨-, rfl⟩ := guarded_next h
      rw [unit_init]
      exact inited_started e fs s u
  · rw [beq_eq_false_iff_ne.2 hop, Bool.and_false, Bool.or_false, exec_inited_of_op_ne hop h]

/-- Settles O14. -/
theorem onlyInitChangesInited : Obligations.OnlyInitChangesInited := by
  intro i s t h u
  rw [exec_inited h, unitOf_encode]

end Sys2Proof.Laws
end

section
/-! From a state of the invariant every command gives a next state: its indexes lie in their memories and its divisors are
not 0 (R39, R140). -/

namespace Sys2Proof.Laws

open Sys2Proof.Machine Sys2Proof.Claims

/-- The machine does not stop. -/
def Completes (r : Result) : Prop := ∃ t, r = .next t

theorem completes_answer (v : Word32) (s : State) : Completes (answer v s) := ⟨_, answer_eq_replied v s⟩

theorem completes_takeFault (c : FaultCode) (s : State) : Completes (takeFault c s) := ⟨_, takeFault_eq_faulted c s⟩

theorem completes_guarded {ok : Bool} (h : ok = true) (s : State) : Completes (guarded ok s) :=
  h ▸ completes_answer 0 s

section
variable {s : State} {k : Result}

theorem completes_whenInited {b : Bool} (hk : b = true → Completes k) : Completes (whenInited b s k) := by
  cases b
  · exact completes_takeFault .eNoInit s
  · exact hk rfl

theorem completes_whenOperand {b : Bool} (hk : b = true → Completes k) : Completes (whenOperand b s k) := by
  cases b
  · exact completes_takeFault .eOperand s
  · exact hk rfl

theorem completes_readRegister (b : Bool) (regs : List Word32) (sel : BitVec 8) :
    Completes (readRegister b regs sel s) := by
  unfold readRegister
  split
  · exact completes_whenInited fun _ => completes_answer _ s
  · exact completes_takeFault .eSel s

theorem completes_withTap {c o : Nat} {f : Int → Result} (hc : c < s.cfg.n) (ho : o < s.cfg.n)
    (hf : ∀ x, Completes (f x)) : Completes (withTap s c o f) := by
  rw [withTap_of_lt hc ho]
  exact hf _

theorem completes_ffeTaps {count n idx : Nat} {acc : Int} {f : Int → Result} (hidx : idx < s.cfg.n)
    (hoff : s.ffe.off < s.cfg.n) (hf : ∀ x, Completes (f x)) : Completes (ffeTaps s count n idx acc f) := by
  induction count generalizing n idx acc with
  | zero => exact hf acc
  | succ count ih =>
    rw [ffeTaps_succ hidx hoff]
    exact ih (ring_lt hidx hoff)

end

section
variable {s : State} (h : s.Inv)
include h

theorem fbe_fs_pos (hinit : s.fbe.inited = true) : 0 < s.fbe.fs :=
  (fsMin_pos_of_legal h.legal).trans_le (h.fbe hinit).fs.1

theorem ffe_fs_pos (hinit : s.ffe.inited = true) : 0 < s.ffe.fs :=
  (fsMin_pos_of_legal h.legal).trans_le (h.ffe hinit).fs.1

theorem fbe_off_lt (hinit : s.fbe.inited = true) : s.fbe.off < s.cfg.n := by
  have hoff := (h.fbe hinit).off.2
  have hn := n_pos_of_legal h.legal
  omega

theorem ffe_off_lt (hinit : s.ffe.inited = true) : s.ffe.off < s.cfg.n := by
  have hoff := (h.ffe hinit).off.2
  have hn := n_pos_of_legal h.legal
  omega

/-- Both taps of a grain unit lie inside HB (R94). -/
theorem grain_taps_lt {g : GrainId} (hinit : (s.grain g).inited = true) :
    (s.grain g).k1 < s.cfg.n ∧ (s.grain g).k2 < s.cfg.n := by
  obtain ⟨-, -, -, -, -, hk1, hk2⟩ := grainTapsStayInBounds g s h hinit
  have hn := n_pos_of_legal h.legal
  omega

/-- The divisors of every SET of an initialised unit. -/
theorem divisorOk_of_inv (e : EffectUnit) (v : Word32) (k : Nat) (hinit : e.isInited s = true) :
    e.divisorOk v k s = true := by
  rcases e with g | _ | _ | _
  · rfl
  · exact Bool.or_eq_true_iff.2 (.inr (decide_eq_true (fbe_fs_pos h hinit).ne'))
  · exact Bool.or_eq_true_iff.2 (.inr (decide_eq_true (ffe_fs_pos h hinit).ne'))
  · have hfs := rev_fs_pos h hinit
    rcases k with _ | k <;> exact revDivisorOk_of_pos hfs (t60ny_pos_of_legal h.legal)

/-- SET from a state of the invariant, as one equation. -/
theorem exec_set_of_inv (e : EffectUnit) (v : Word32) (k : Nat) :
    exec (e.set v k) s = if e.isInited s then .next (replied 0 (e.stored v k s)) else .next (faulted 5 s) := by
  rw [exec_set]
  split
  next hinit =>
    rw [hinit, whenInited_true, divisorOk_of_inv h e v k hinit]
    exact answer_eq_replied ..
  next hinit =>
    rw [Bool.eq_false_of_not_eq_true hinit]
    exact takeFault_eq_faulted ..

theorem exec_completes (i : Instr) : Completes (exec i s) := by
  cases i using instr_cases with
  | glbNop => exact completes_answer ..
  | glbPeek sel => exact completes_readRegister ..
  | shbPeek sel => exact completes_readRegister ..
  | shbInit => exact completes_answer ..
  | shbPush x =>
    refine completes_whenInited fun _ => completes_whenOperand fun _ => ?_
    rw [if_pos h.cursor]
    exact completes_answer ..
  | shbRead c o =>
    have hn := n_bounds_of_legal h.legal
    refine completes_whenInited fun _ => completes_whenOperand fun hc =>
      completes_withTap (cursorOk_iff.1 hc) ?_ fun _ => completes_answer ..
    rw [clampData_eq_clamped]
    have := clamped_le (Nat.le_sub_one_of_lt hn.1) o
    omega
  | shbIndex c o => exact completes_whenInited fun _ => completes_whenOperand fun _ => completes_answer ..
  | init e fs =>
    rw [exec_init]
    refine completes_guarded ?_ _
    rcases e with g | _ | _ | _
    · rfl
    · rfl
    · rfl
    · exact revDivisorOk_of_pos ((fsMin_pos_of_legal h.legal).trans_le (le_clamped ..)) (t60ny_pos_of_legal h.legal)
  | set e v k => rw [exec_set_of_inv h]; split <;> exact ⟨_, rfl⟩
  | get e sel => rw [exec_get]; exact completes_readRegister ..
  | switch e on => rw [exec_switch]; exact completes_whenInited fun _ => completes_answer ..
  | peek e sel => rw [exec_peek]; exact completes_readRegister ..
  | grainProc g c x =>
    rw [exec_grainProc]
    refine completes_whenInited fun hinit => completes_whenOperand fun hop => ?_
    obtain ⟨hk1, hk2⟩ := grain_taps_lt h (Bool.and_eq_true_iff.1 hinit).1
    have hc := (cursorOk_and_sampleOk_iff.1 hop).1
    refine completes_withTap hc hk1 fun _ => ?_
    split
    · exact completes_withTap hc hk2 fun _ => completes_answer ..
    · exact completes_answer ..
  | fbeProc c x =>
    exact completes_whenInited fun hinit => completes_whenOperand fun hop =>
      completes_withTap (cursorOk_and_sampleOk_iff.1 hop).1 (fbe_off_lt h (Bool.and_eq_true_iff.1 hinit).1)
        fun _ => completes_answer ..
  | ffeProc c x =>
    exact completes_whenInited fun hinit => completes_whenOperand fun hop =>
      completes_ffeTaps (cursorOk_and_sampleOk_iff.1 hop).1 (ffe_off_lt h (Bool.and_eq_true_iff.1 hinit).1)
        fun _ => completes_answer ..
  | revProc x =>
    refine completes_whenInited fun _ => completes_whenOperand fun _ => ?_
    rw [if_pos (revIndexOk_of_lt h.rcursor (line_delay_lt_lineLen h.legal))]
    exact completes_answer ..

end

/-- The invariant does not look at the inputs, the responses, or which STATUS bits of the mask are set. -/
theorem inv_of_reply {s : State} (h : s.Inv) {st : BitVec 32} (hst : st &&& ~~~statusMask = 0) (p : List Input)
    (r : List ResponseWord) : State.Inv { s with pending := p, responses := r, status := st } :=
  ⟨h.legal, hst, h.cursor, h.hb, h.rcursor, h.rb, h.grain, h.fbe, h.ffe, h.rev⟩

/-- Settles O11, by the first input presented. -/
theorem stepIsTotal : Obligations.StepIsTotal := by
  intro s h
  cases hp : s.pending with
  | nil => exact ⟨s, step_of_idle hp⟩
  | cons input rest =>
    cases input with
    | hardReset => exact ⟨_, step_of_hardReset hp⟩
    | command w =>
      cases hw : decode w with
      | error c => rw [step_of_decode_error hp h.legal hw]; exact completes_takeFault ..
      | ok i => rw [step_of_decode_ok hp h.legal hw]; exact exec_completes (inv_of_reply h h.status rest s.responses) i

end Sys2Proof.Laws
end

section
/-! What a command reads (R7): two states that agree on its unit, and on the cells of HB that it reads, answer it alike. -/

namespace Sys2Proof.Laws

open Sys2Proof.Machine Sys2Proof.Claims

/-! One unit of two states. -/

theorem sameUnit_symm {u : UnitId} {s t : State} (h : SameUnit u s t) : SameUnit u t s := by
  cases u <;> first | trivial | exact Eq.symm h

theorem sameUnit_trans {u : UnitId} {s t r : State} (h : SameUnit u s t) (h' : SameUnit u t r) : SameUnit u s r := by
  cases u <;> first | trivial | exact Eq.trans h h'

theorem sameUnit_grain {g : GrainId} {s t : State} :
    SameUnit (EffectUnit.grain g).unit s t ↔ s.grain g = t.grain g := by
  cases g <;> exact Iff.rfl

theorem sameUnit_setGrain (g : GrainId) (s t : State) (u : Grain) :
    SameUnit (EffectUnit.grain g).unit (s.setGrain g u) (t.setGrain g u) := by
  rw [sameUnit_grain, setGrain_grain_same, setGrain_grain_same]

theorem sameUnit_replied {u : UnitId} {s t : State} (h : SameUnit u s t) (v w : Word32) :
    SameUnit u (replied v s) (replied w t) := by
  cases u <;> exact h

theorem sameUnit_faulted {u : UnitId} {s t : State} (h : SameUnit u s t) (j k : Nat) :
    SameUnit u (faulted j s) (faulted k t) := by
  cases u <;> exact h

section
variable {e : EffectUnit} {s t : State} (h : SameUnit e.unit s t)
include h

theorem isInited_congr : e.isInited s = e.isInited t := by
  rcases e with g | _ | _ | _
  · exact congrArg Grain.inited (sameUnit_grain.1 h)
  · exact congrArg Fbe.inited h
  · exact congrArg Ffe.inited h
  · exact congrArg Rev.inited h

theorem params_congr : e.params s = e.params t := by
  rcases e with g | _ | _ | _
  · exact congrArg grainParams (sameUnit_grain.1 h)
  · exact congrArg fbeParams h
  · exact congrArg ffeParams h
  · exact congrArg revParams h

theorem registers_congr : e.registers s = e.registers t := by
  rcases e with g | _ | _ | _
  · exact congrArg grainRegisters (sameUnit_grain.1 h)
  · exact congrArg fbeRegisters h
  · exact congrArg ffeRegisters h
  · exact congrArg revRegisters h

theorem sameUnit_switched (on : Bool) : SameUnit e.unit (e.switched on s) (e.switched on t) := by
  rcases e with g | _ | _ | _
  · have hu : s.grain g = t.grain g := sameUnit_grain.1 h
    change SameUnit _ (s.setGrain g { s.grain g with enable := on }) (t.setGrain g { t.grain g with enable := on })
    rw [hu]
    exact sameUnit_setGrain ..
  · exact congrArg (fun u : Fbe => { u with enable := on }) h
  · exact congrArg (fun u : Ffe => { u with enable := on }) h
  · exact congrArg (fun u : Rev => { u with enable := on }) h

end

/-- INIT forgets what the unit held (R151). -/
theorem sameUnit_started {s t : State} (hcfg : s.cfg = t.cfg) (e : EffectUnit) (fs : Word32) :
    SameUnit e.unit (e.started fs s) (e.started fs t) := by
  rcases e with g | _ | _ | _
  · change SameUnit _ (s.setGrain g (initialGrain s.cfg _ (clamped fs s.cfg.fsMin s.cfg.fsMax)))
      (t.setGrain g (initialGrain t.cfg (t.cfg.grain g) (clamped fs t.cfg.fsMin t.cfg.fsMax)))
    rw [hcfg]
    exact sameUnit_setGrain ..
  · exact congrArg (fun cfg : Config => initialFbe cfg (clamped fs cfg.fsMin cfg.fsMax)) hcfg
  · exact congrArg (fun cfg : Config => initialFfe cfg (clamped fs cfg.fsMin cfg.fsMax)) hcfg
  · exact congrArg (fun cfg : Config => initialRev cfg (clamped fs cfg.fsMin cfg.fsMax)) hcfg

section
variable {e : EffectUnit} {s t : State} (hcfg : s.cfg = t.cfg) (h : SameUnit e.unit s t)
include hcfg h

theorem divisorOk_congr (v : Word32) (k : Nat) : e.divisorOk v k s = e.divisorOk v k t := by
  rcases e with g | _ | _ | _
  · rfl
  · exact congrArg (fun u : Fbe => decide (k < 3) || decide (u.fs ≠ 0)) h
  · exact congrArg (fun u : Ffe => decide (k < 4) || decide (u.fs ≠ 0)) h
  · exact congrArg₂ (fun cfg u => revDivisorOk cfg (revStore cfg v u k)) hcfg h

theorem sameUnit_stored (v : Word32) (k : Nat) : SameUnit e.unit (e.stored v k s) (e.stored v k t) := by
  rcases e with g | _ | _ | _
  · have hu : s.grain g = t.grain g := sameUnit_grain.1 h
    change SameUnit _ (s.setGrain g (grainRecompute (s.cfg.grain g) (grainStore (s.cfg.grain g) v (s.grain g) k)))
      (t.setGrain g (grainRecompute (t.cfg.grain g) (grainStore (t.cfg.grain g) v (t.grain g) k)))
    rw [hu, hcfg]
    exact sameUnit_setGrain ..
  · exact congrArg₂ (fun cfg u => fbeRecompute cfg (fbeStore cfg v u k)) hcfg h
  · exact congrArg₂ (fun cfg u => ffeRecompute (ffeStore cfg v u k)) hcfg h
  · exact congrArg₂ (fun cfg u => revClear (revRecompute cfg (revStore cfg v u k))) hcfg h

end

/-! Two commands that answer alike. -/

/-- From `s1` to `t1` and from `s2` to `t2` the same response is given, the same STATUS bits are set, and unit `u` is the
same afterwards. -/
def AlikeStates (u : UnitId) (s1 s2 t1 t2 : State) : Prop :=
  ∃ (m : BitVec 32) (r : ResponseWord), SameUnit u t1 t2 ∧ t1.responses = r :: s1.responses ∧
    t2.responses = r :: s2.responses ∧ t1.status = s1.status ||| m ∧ t2.status = s2.status ||| m

/-- If `r1` is a next state of `s1`, `r2` is one of `s2` that is alike. -/
def Alike (u : UnitId) (s1 s2 : State) (r1 r2 : Result) : Prop :=
  ∀ t1, r1 = .next t1 → ∃ t2, r2 = .next t2 ∧ AlikeStates u s1 s2 t1 t2

/-- The state was written in the unit only: STATUS and the responses are still those of `s`. -/
def KeepsReply (s s' : State) : Prop := s'.responses = s.responses ∧ s'.status = s.status

theorem keepsReply_refl (s : State) : KeepsReply s s := ⟨rfl, rfl⟩

theorem keepsReply_started (e : EffectUnit) (fs : Word32) (s : State) : KeepsReply s (e.started fs s) :=
  ⟨started_responses e fs s, started_status e fs s⟩

theorem keepsReply_stored (e : EffectUnit) (v : Word32) (k : Nat) (s : State) : KeepsReply s (e.stored v k s) :=
  ⟨stored_responses e v k s, stored_status e v k s⟩

theorem keepsReply_switched (e : EffectUnit) (on : Bool) (s : State) : KeepsReply s (e.switched on s) :=
  ⟨switched_responses e on s, switched_status e on s⟩

section
variable {u : UnitId} {s1 s2 : State} {k1 k2 : Result}

theorem alike_fault {f : Fault} : Alike u s1 s2 (.fault f) k2 := fun _ h => by cases h

/-- Both commands answer `v`, in states that have the same unit and the same new STATUS bits. -/
theorem alike_answer_status {v w : Word32} {a1 a2 : State} (m : BitVec 32) (hv : v = w) (hu : SameUnit u a1 a2)
    (hr1 : a1.responses = s1.responses) (hr2 : a2.responses = s2.responses) (hs1 : a1.status = s1.status ||| m)
    (hs2 : a2.status = s2.status ||| m) : Alike u s1 s2 (answer v a1) (answer w a2) := by
  intro t1 ht1
  rw [answer_eq_replied] at ht1
  cases ht1
  exact ⟨_, answer_eq_replied w a2, m, word 0 v, sameUnit_replied hu v w, congrArg _ hr1, by rw [hv, replied, hr2], hs1,
    hs2⟩

theorem alike_answer {v w : Word32} {a1 a2 : State} (hv : v = w) (hu : SameUnit u a1 a2) (h1 : KeepsReply s1 a1)
    (h2 : KeepsReply s2 a2) : Alike u s1 s2 (answer v a1) (answer w a2) := by
  obtain ⟨hr1, hs1⟩ := h1
  obtain ⟨hr2, hs2⟩ := h2
  exact alike_answer_status 0 hv hu hr1 hr2 (hs1.trans BitVec.or_zero.symm) (hs2.trans BitVec.or_zero.symm)

theorem alike_guarded {b1 b2 : Bool} {a1 a2 : State} (hb : b1 = b2) (hu : SameUnit u a1 a2) (h1 : KeepsReply s1 a1)
    (h2 : KeepsReply s2 a2) : Alike u s1 s2 (guarded b1 a1) (guarded b2 a2) := by
  subst hb
  cases b1
  · exact alike_fault
  · exact alike_answer rfl hu h1 h2

theorem alike_takeFault (c : FaultCode) (hu : SameUnit u s1 s2) :
    Alike u s1 s2 (takeFault c s1) (takeFault c s2) := by
  intro t1 ht1
  rw [takeFault_eq_faulted] at ht1
  cases ht1
  exact ⟨_, takeFault_eq_faulted c s2, _, _, sameUnit_faulted hu _ _, rfl, rfl, rfl, rfl⟩

theorem alike_whenInited {b1 b2 : Bool} (hb : b1 = b2) (hu : SameUnit u s1 s2)
    (hk : b1 = true → Alike u s1 s2 k1 k2) : Alike u s1 s2 (whenInited b1 s1 k1) (whenInited b2 s2 k2) := by
  subst hb
  cases b1
  · exact alike_takeFault .eNoInit hu
  · exact hk rfl

theorem alike_whenOperand {b1 b2 : Bool} (hb : b1 = b2) (hu : SameUnit u s1 s2) (hk : Alike u s1 s2 k1 k2) :
    Alike u s1 s2 (whenOperand b1 s1 k1) (whenOperand b2 s2 k2) := by
  subst hb
  cases b1
  · exact alike_takeFault .eOperand hu
  · exact hk

theorem alike_readRegister {b1 b2 : Bool} {l1 l2 : List Word32} (sel : BitVec 8) (hb : b1 = b2) (hl : l1 = l2)
    (hu : SameUnit u s1 s2) : Alike u s1 s2 (readRegister b1 l1 sel s1) (readRegister b2 l2 sel s2) := by
  subst hl
  unfold readRegister
  cases l1[sel.toNat]? with
  | none => exact alike_takeFault .eSel hu
  | some v => exact alike_whenInited hb hu fun _ => alike_answer rfl hu (keepsReply_refl s1) (keepsReply_refl s2)

section
variable (hcfg : s1.cfg = s2.cfg)
include hcfg

theorem cursorOk_congr (c : BitVec 16) : cursorOk s1 c = cursorOk s2 c := by rw [cursorOk, hcfg, cursorOk]

theorem offsetOk_congr (o : Word32) : offsetOk s1 o = offsetOk s2 o := by rw [offsetOk, hcfg, offsetOk]

/-- A tap that reads the same cell. -/
theorem alike_withTap {c o1 o2 : Nat} {f1 f2 : Int → Result} (ho : o1 = o2)
    (htap : c < s1.cfg.n → o1 < s1.cfg.n → s1.shb.hb.read (ring c o1 s1.cfg.n) = s2.shb.hb.read (ring c o1 s1.cfg.n))
    (hf : ∀ x, Alike u s1 s2 (f1 x) (f2 x)) : Alike u s1 s2 (withTap s1 c o1 f1) (withTap s2 c o2 f2) := by
  subst ho
  unfold withTap
  rw [← hcfg]
  split
  next hlt => rw [htap hlt.1 hlt.2]; exact hf _
  next => exact alike_fault

/-- The feedforward loop reads HB and FFE only. -/
theorem alike_ffeTaps {count n idx : Nat} {acc : Int} {f1 f2 : Int → Result} (hshb : s1.shb = s2.shb)
    (hffe : s1.ffe = s2.ffe) (hf : ∀ x, Alike u s1 s2 (f1 x) (f2 x)) :
    Alike u s1 s2 (ffeTaps s1 count n idx acc f1) (ffeTaps s2 count n idx acc f2) := by
  induction count generalizing n idx acc with
  | zero => exact hf acc
  | succ count ih =>
    refine alike_withTap hcfg (congrArg Ffe.off hffe) (fun _ _ => by rw [hshb]) fun x => ?_
    rw [hffe, hcfg]
    exact ih

/-- The PROC of a grain unit reads its unit and two cells of HB. -/
theorem alike_grainProc {g : GrainId} {c : BitVec 16} (x : Word32) (hu : s1.grain g = s2.grain g)
    (hinit : s1.shb.inited = s2.shb.inited)
    (htap : (s1.grain g).inited = true → ∀ o, o = (s1.grain g).k1 ∨ o = (s1.grain g).k2 → c.toNat < s1.cfg.n →
      o < s1.cfg.n → s1.shb.hb.read (ring c.toNat o s1.cfg.n) = s2.shb.hb.read (ring c.toNat o s1.cfg.n)) :
    Alike (EffectUnit.grain g).unit s1 s2 (exec (.grainProc c x g) s1) (exec (.grainProc c x g) s2) := by
  have hsame := sameUnit_grain.2 hu
  rw [exec_grainProc, exec_grainProc]
  have hfinish : ∀ gr, Alike (EffectUnit.grain g).unit s1 s2 (grainFinish g (dataValue x) gr s1)
      (grainFinish g (dataValue x) gr s2) := fun gr => by
    unfold grainFinish
    rw [← hu, ← hcfg]
    obtain ⟨m, hm⟩ : ∃ m, ∀ w, noteNarrowing (grainMix (s1.grain g) (dataValue x) gr)
        (wrap16 (grainMix (s1.grain g) (dataValue x) gr)) w = w ||| m := by
      simp only [noteNarrowing_eq]
      split
      · exact ⟨0, fun _ => BitVec.or_zero.symm⟩
      · exact ⟨_, fun _ => rfl⟩
    refine alike_answer_status m rfl (sameUnit_setGrain ..) ?_ ?_ ?_ ?_
    · rw [setGrain_responses]
    · rw [setGrain_responses]
    · rw [setGrain_status]; exact hm _
    · rw [setGrain_status]; exact hm _
  refine alike_whenInited (by rw [hu, hinit]) hsame fun hbit =>
    alike_whenOperand (by rw [cursorOk_congr hcfg]) hsame ?_
  have hcells := htap (Bool.and_eq_true_iff.1 hbit).1
  refine alike_withTap hcfg (congrArg Grain.k1 hu) (hcells _ (.inl rfl)) fun t1 => ?_
  rw [← hu, ← hcfg]
  split
  · exact alike_withTap hcfg rfl (hcells _ (.inr rfl)) fun t2 => hfinish _
  · exact hfinish _

/-- FBE.PROC reads its unit and one cell of HB. -/
theorem alike_fbeProc {c : BitVec 16} (x : Word32) (hu : s1.fbe = s2.fbe) (hinit : s1.shb.inited = s2.shb.inited)
    (htap : s1.fbe.inited = true → c.toNat < s1.cfg.n → s1.fbe.off < s1.cfg.n →
      s1.shb.hb.read (ring c.toNat s1.fbe.off s1.cfg.n) = s2.shb.hb.read (ring c.toNat s1.fbe.off s1.cfg.n)) :
    Alike .fbe s1 s2 (exec (.fbeProc c x) s1) (exec (.fbeProc c x) s2) := by
  refine alike_whenInited (by rw [hu, hinit]) hu fun hbit => alike_whenOperand (by rw [cursorOk_congr hcfg]) hu ?_
  refine alike_withTap hcfg (congrArg Fbe.off hu) (htap (Bool.and_eq_true_iff.1 hbit).1) fun t => ?_
  exact alike_answer (by rw [hu]) hu (keepsReply_refl s1) (keepsReply_refl s2)

theorem alike_ffeProc {c : BitVec 16} (x : Word32) (hu : s1.ffe = s2.ffe) (hshb : s1.shb = s2.shb) :
    Alike .ffe s1 s2 (exec (.ffeProc c x) s1) (exec (.ffeProc c x) s2) := by
  refine alike_whenInited (by rw [hu, hshb]) hu fun _ => alike_whenOperand (by rw [cursorOk_congr hcfg]) hu ?_
  rw [hu]
  exact alike_ffeTaps hcfg hshb hu fun _ => alike_answer rfl hu (keepsReply_refl s1) (keepsReply_refl s2)

theorem alike_revProc (x : Word32) (hu : s1.rev = s2.rev) :
    Alike .rev s1 s2 (exec (.revProc x) s1) (exec (.revProc x) s2) := by
  refine alike_whenInited (by rw [hu]) hu fun _ => alike_whenOperand rfl hu ?_
  rw [hu, hcfg]
  split
  · exact alike_answer rfl rfl ⟨rfl, rfl⟩ ⟨rfl, rfl⟩
  · exact alike_fault

theorem alike_shbPush (x : Word32) (hu : s1.shb = s2.shb) :
    Alike .shb s1 s2 (exec (.shbPush x) s1) (exec (.shbPush x) s2) := by
  refine alike_whenInited (by rw [hu]) hu fun _ => alike_whenOperand rfl hu ?_
  rw [hu, hcfg]
  split
  · exact alike_answer rfl rfl ⟨rfl, rfl⟩ ⟨rfl, rfl⟩
  · exact alike_fault

theorem alike_shbRead (c : BitVec 16) (o : Word32) (hu : s1.shb = s2.shb) :
    Alike .shb s1 s2 (exec (.shbRead c o) s1) (exec (.shbRead c o) s2) := by
  refine alike_whenInited (by rw [hu]) hu fun _ => alike_whenOperand (cursorOk_congr hcfg c) hu ?_
  exact alike_withTap hcfg (by rw [hcfg]) (fun _ _ => by rw [hu]) fun _ =>
    alike_answer rfl hu (keepsReply_refl s1) (keepsReply_refl s2)

theorem alike_shbIndex (c : BitVec 16) (o : Word32) (hu : s1.shb = s2.shb) :
    Alike .shb s1 s2 (exec (.shbIndex c o) s1) (exec (.shbIndex c o) s2) := by
  refine alike_whenInited (by rw [hu]) hu fun _ =>
    alike_whenOperand (by rw [cursorOk_congr hcfg, offsetOk_congr hcfg]) hu ?_
  exact alike_answer (by rw [hcfg]) hu (keepsReply_refl s1) (keepsReply_refl s2)

end

end

/-- The two states agree on what command `i` reads: the configuration, its unit unless it is INIT, and HB if it is the PROC
of a unit that reads it; for GLB, its registers. -/
def ReadsAlike (i : Instr) (s1 s2 : State) : Prop :=
  s1.cfg = s2.cfg ∧ (opOf (encode i) ≠ 1 → SameUnit i.unit s1 s2) ∧
    (opOf (encode i) = 5 → i.unit ≠ .rev → s1.shb = s2.shb) ∧ (i.unit = .glb → glbRegisters s1 = glbRegisters s2)

/-- A command reads nothing else. -/
theorem alike_exec {i : Instr} {s1 s2 : State} (h : ReadsAlike i s1 s2) :
    Alike i.unit s1 s2 (exec i s1) (exec i s2) := by
  obtain ⟨hcfg, hunit, hhb, hglb⟩ := h
  cases i using instr_cases with
  | glbNop => exact alike_answer rfl trivial (keepsReply_refl s1) (keepsReply_refl s2)
  | glbPeek sel => exact alike_readRegister sel rfl (hglb rfl) trivial
  | shbInit => exact alike_answer rfl rfl ⟨rfl, rfl⟩ ⟨rfl, rfl⟩
  | shbPush x => exact alike_shbPush hcfg x (hunit (by simp))
  | shbRead c o => exact alike_shbRead hcfg c o (hunit (by simp))
  | shbIndex c o => exact alike_shbIndex hcfg c o (hunit (by simp))
  | shbPeek sel =>
    have hu : s1.shb = s2.shb := hunit (by simp)
    exact alike_readRegister sel (by rw [hu]) (by rw [shbRegisters, hu, hcfg, shbRegisters]) hu
  | init e fs =>
    rw [exec_init, exec_init, unit_init]
    exact alike_guarded (by rw [hcfg]) (sameUnit_started hcfg e fs) (keepsReply_started ..) (keepsReply_started ..)
  | set e v k =>
    have hu := hunit (by simp)
    rw [unit_set] at hu ⊢
    rw [exec_set, exec_set]
    exact alike_whenInited (isInited_congr hu) hu fun _ => alike_guarded (divisorOk_congr hcfg hu v k)
      (sameUnit_stored hcfg hu v k) (keepsReply_stored ..) (keepsReply_stored ..)
  | get e sel =>
    have hu := hunit (by simp)
    rw [unit_get] at hu ⊢
    rw [exec_get, exec_get]
    exact alike_readRegister sel (isInited_congr hu) (params_congr hu) hu
  | switch e on =>
    have hu := hunit (by simp)
    rw [unit_switch] at hu ⊢
    rw [exec_switch, exec_switch]
    exact alike_whenInited (isInited_congr hu) hu fun _ =>
      alike_answer rfl (sameUnit_switched hu on) (keepsReply_switched ..) (keepsReply_switched ..)
  | peek e sel =>
    have hu := hunit (by simp)
    rw [unit_peek] at hu ⊢
    rw [exec_peek, exec_peek]
    exact alike_readRegister sel (isInited_congr hu) (registers_congr hu) hu
  | grainProc g c x =>
    have hu := hunit (by simp)
    have hshb := hhb (by simp) (by cases g <;> nofun)
    rw [unit_grainProc] at hu ⊢
    exact alike_grainProc hcfg x (sameUnit_grain.1 hu) (by rw [hshb]) fun _ _ _ _ _ => by rw [hshb]
  | fbeProc c x =>
    have hshb := hhb (by simp) nofun
    exact alike_fbeProc hcfg x (hunit (by simp)) (by rw [hshb]) fun _ _ _ => by rw [hshb]
  | ffeProc c x => exact alike_ffeProc hcfg x (hunit (by simp)) (hhb (by simp) nofun)
  | revProc x => exact alike_revProc hcfg x (hunit (by simp))

/-- Settles O16. -/
theorem commandsReadOnlyTheirUnit : Obligations.CommandsReadOnlyTheirUnit := by
  intro i s1 s2 t1 hglb hcfg hunit hshb ht1
  obtain ⟨t2, ht2, m, r, hall⟩ :=
    alike_exec (i := i) ⟨hcfg, fun _ => hunit, hshb, fun h => absurd h hglb⟩ t1 ht1
  exact ⟨t2, m, r, ht2, hall⟩

/-- Settles O19: INIT reads the configuration only. -/
theorem initForgetsWhatTheUnitHeld : Obligations.InitForgetsWhatTheUnitHeld := by
  intro i s1 s2 t1 t2 hop hcfg ht1 ht2
  have hglb : i.unit ≠ .glb := by
    rcases eq_init_of_op hop with rfl | ⟨e, fs, rfl⟩
    · nofun
    · rw [unit_init]; rcases e with (_ | _ | _) | _ | _ | _ <;> nofun
  obtain ⟨t2', ht2', _, _, hsame, -⟩ := alike_exec (i := i)
    ⟨hcfg, fun h => absurd hop h, fun h => by omega, fun h => absurd h hglb⟩ t1 ht1
  cases ht2.symm.trans ht2'
  exact hsame

end Sys2Proof.Laws
end

section
/-! What hardware reset leaves unspecified cannot be observed (R150): a command either reads initialised units only, or
faults, or is an INIT, which reads no unit. -/

namespace Sys2Proof.Laws

open Sys2Proof.Machine Sys2Proof.Claims

/-- The definition unit by unit. -/
theorem sameButUninitialised_iff {s t : State} : SameButUninitialised s t ↔
    (s.cfg = t.cfg ∧ s.pending = t.pending ∧ s.responses = t.responses ∧ s.status = t.status) ∧
    (∀ u : UnitId, inited s (unitNumber u) = inited t (unitNumber u)) ∧
    ∀ u : UnitId, inited s (unitNumber u) = true → SameUnit u s t := by
  constructor
  · intro h
    refine ⟨⟨h.cfg, h.pending, h.responses, h.status⟩, fun u => ?_, fun u => ?_⟩
    · cases u with
      | glb => rfl
      | shb => exact h.shbInited
      | det => exact h.grainInited .det
      | oct => exact h.grainInited .oct
      | psh => exact h.grainInited .psh
      | fbe => exact h.fbeInited
      | ffe => exact h.ffeInited
      | rev => exact h.revInited
    · cases u with
      | glb => exact fun _ => trivial
      | shb => exact h.shb
      | det => exact h.grain .det
      | oct => exact h.grain .oct
      | psh => exact h.grain .psh
      | fbe => exact h.fbe
      | ffe => exact h.ffe
      | rev => exact h.rev
  · rintro ⟨⟨hcfg, hpending, hresponses, hstatus⟩, hinited, hunit⟩
    exact {
      cfg := hcfg, pending := hpending, responses := hresponses, status := hstatus
      shbInited := hinited .shb, shb := hunit .shb
      grainInited := fun g => match g with | .det => hinited .det | .oct => hinited .oct | .psh => hinited .psh
      grain := fun g => match g with | .det => hunit .det | .oct => hunit .oct | .psh => hunit .psh
      fbeInited := hinited .fbe, fbe := hunit .fbe, ffeInited := hinited .ffe, ffe := hunit .ffe
      revInited := hinited .rev, rev := hunit .rev }

theorem sameButUninitialised_refl (s : State) : SameButUninitialised s s :=
  sameButUninitialised_iff.2 ⟨⟨rfl, rfl, rfl, rfl⟩, fun _ => rfl, fun u _ => sameUnit_refl u s⟩

theorem unitNumber_injective : Function.Injective unitNumber := by
  intro u v h
  cases u <;> cases v <;> first | rfl | cases h

/-- Step 5 of the check: a command that is no INIT faults unless its units are initialised (R142). -/
theorem exec_of_not_inited {s : State} {i : Instr} (hwf : i.wellFormed = true)
    (hnot : i.unit ≠ .glb ∧ opOf (encode i) ≠ 1 ∧ inited s (unitNumber i.unit) = false ∨
      opOf (encode i) = 5 ∧ i.unit ≠ .rev ∧ s.shb.inited = false) :
    exec i s = .next (faulted 5 s) := by
  have hglb : unitNumber i.unit = 0 ↔ i.unit = .glb := Function.Injective.eq_iff unitNumber_injective (b := .glb)
  have hrev : unitNumber i.unit = 7 ↔ i.unit = .rev := Function.Injective.eq_iff unitNumber_injective (b := .rev)
  simp only [ne_eq, ← hglb, ← hrev, ← unitOf_encode] at hnot
  have hcode : stateFault s (encode i) = 5 := by
    by_cases hunit : unitOf (encode i) ≠ 0 ∧ opOf (encode i) ≠ 1 ∧ inited s (unitOf (encode i)) = false
    · exact if_pos hunit
    · exact (if_neg hunit).trans (if_pos (hnot.resolve_left hunit))
  have hmeets := (meets_exec i s hwf).1
  rw [hcode] at hmeets
  exact hmeets nofun

section
variable {s s' : State} (h : SameButUninitialised s s')
include h

theorem sameButUninitialised_withPending (p : List Input) :
    SameButUninitialised { s with pending := p } { s' with pending := p } :=
  ⟨h.cfg, rfl, h.responses, h.status, h.shbInited, h.shb, h.grainInited, h.grain, h.fbeInited, h.fbe, h.ffeInited,
    h.ffe, h.revInited, h.rev⟩

theorem sameButUninitialised_faulted (k : Nat) : SameButUninitialised (faulted k s) (faulted k s') :=
  ⟨h.cfg, h.pending, congrArg (_ :: ·) h.responses, congrArg (· ||| _) h.status, h.shbInited, h.shb, h.grainInited, h.grain,
    h.fbeInited, h.fbe, h.ffeInited, h.ffe, h.revInited, h.rev⟩

/-- INITMAP and the other registers of GLB are specified. -/
theorem glbRegisters_congr : glbRegisters s = glbRegisters s' := by
  have hdet : s.det.inited = s'.det.inited := h.grainInited .det
  have hoct : s.oct.inited = s'.oct.inited := h.grainInited .oct
  have hpsh : s.psh.inited = s'.psh.inited := h.grainInited .psh
  rw [glbRegisters, glbRegisters, initMap, initMap, h.status, h.cfg, h.shbInited, hdet, hoct, hpsh, h.fbeInited,
    h.ffeInited, h.revInited]

/-- A command that answers alike leaves only unspecified state different. -/
theorem sameButUninitialised_of_alike {i : Instr} {t t' : State} (ht : exec i s = .next t) (ht' : exec i s' = .next t')
    (halike : AlikeStates i.unit s s' t t') : SameButUninitialised t t' := by
  obtain ⟨⟨hcfg, hpending, hresponses, hstatus⟩, hinited, hunit⟩ := sameButUninitialised_iff.1 h
  obtain ⟨m, r, hsame, hr, hr', hm, hm'⟩ := halike
  obtain ⟨hc, hp⟩ := exec_cfg_pending ht
  obtain ⟨hc', hp'⟩ := exec_cfg_pending ht'
  refine sameButUninitialised_iff.2 ⟨⟨?_, ?_, ?_, ?_⟩, fun u => ?_, fun u hu => ?_⟩
  · rw [hc, hc', hcfg]
  · rw [hp, hp', hpending]
  · rw [hr, hr', hresponses]
  · rw [hm, hm', hstatus]
  · rw [exec_inited ht, exec_inited ht', hinited]
  · by_cases hne : u = i.unit
    · rw [hne]; exact hsame
    · have hbit : (unitNumber i.unit == unitNumber u) = false :=
        beq_eq_false_iff_ne.2 fun heq => hne (unitNumber_injective heq).symm
      rw [exec_inited ht, hbit, Bool.false_and, Bool.or_false] at hu
      exact sameUnit_trans (sameUnit_trans (sameUnit_of_ne ht hne) (hunit u hu))
        (sameUnit_symm (sameUnit_of_ne ht' hne))

/-- A command with its units initialised, or an INIT, reads what is specified only. -/
theorem readsAlike_of_inited {i : Instr}
    (hinit : ¬(i.unit ≠ .glb ∧ opOf (encode i) ≠ 1 ∧ inited s (unitNumber i.unit) = false ∨
      opOf (encode i) = 5 ∧ i.unit ≠ .rev ∧ s.shb.inited = false)) : ReadsAlike i s s' := by
  obtain ⟨-, -, hunit⟩ := sameButUninitialised_iff.1 h
  refine ⟨h.cfg, fun hop => ?_, fun hop hne => h.shb ?_, fun _ => glbRegisters_congr h⟩
  · by_cases hglb : i.unit = .glb
    · rw [hglb]; trivial
    · refine hunit i.unit ?_
      by_contra hbit
      exact hinit (.inl ⟨hglb, hop, Bool.eq_false_of_not_eq_true hbit⟩)
  · by_contra hbit
    exact hinit (.inr ⟨hop, hne, Bool.eq_false_of_not_eq_true hbit⟩)

theorem sameButUninitialised_exec {i : Instr} {t : State} (hwf : i.wellFormed = true)
    (ht : exec i s = .next t) : ∃ t', exec i s' = .next t' ∧ SameButUninitialised t t' := by
  by_cases hnot : i.unit ≠ .glb ∧ opOf (encode i) ≠ 1 ∧ inited s (unitNumber i.unit) = false ∨
      opOf (encode i) = 5 ∧ i.unit ≠ .rev ∧ s.shb.inited = false
  · obtain ⟨-, hinited, -⟩ := sameButUninitialised_iff.1 h
    have hnot' := hnot
    rw [hinited, h.shbInited] at hnot'
    cases ht.symm.trans (exec_of_not_inited hwf hnot)
    exact ⟨_, exec_of_not_inited hwf hnot', sameButUninitialised_faulted h 5⟩
  · obtain ⟨t', ht', halike⟩ := alike_exec (readsAlike_of_inited h hnot) t ht
    exact ⟨t', ht', sameButUninitialised_of_alike h ht ht' halike⟩

end

/-- Settles O18, by what the step accepts. -/
theorem unspecifiedStateIsUnobservable : Obligations.UnspecifiedStateIsUnobservable := by
  intro s s' t h ht
  rcases step_next ht with ⟨hp, rfl⟩ | ⟨rest, hp, rfl⟩ | ⟨w, rest, c, hp, hlegal, hw, ht⟩ |
    ⟨w, rest, i, hp, hlegal, hw, ht⟩
  · exact ⟨s', step_of_idle (h.pending ▸ hp), h⟩
  · refine ⟨_, step_of_hardReset (h.pending ▸ hp), ?_⟩
    have hsame : State.hardReset { s with pending := rest } = State.hardReset { s' with pending := rest } := by
      simp only [State.hardReset, h.cfg, h.responses]
    rw [hsame]
    exact sameButUninitialised_refl _
  · rw [step_of_decode_error (h.pending ▸ hp) (h.cfg ▸ hlegal) hw, takeFault_eq_faulted]
    rw [takeFault_eq_faulted] at ht
    cases ht
    exact ⟨_, rfl, sameButUninitialised_faulted (sameButUninitialised_withPending h rest) _⟩
  · rw [step_of_decode_ok (h.pending ▸ hp) (h.cfg ▸ hlegal) hw]
    exact sameButUninitialised_exec (sameButUninitialised_withPending h rest) (decodedWordsEncodeBack w i hw).1 ht

end Sys2Proof.Laws
end

section
/-! Two commands of different units, each of which reads nothing that the other writes, may change places; PUSH and the
PROC of its tick are such commands, because the tap of PROC is never the cell that PUSH writes (R69). -/

namespace Sys2Proof.Laws

open Sys2Proof.Machine Sys2Proof.Claims

theorem execAll_cons {i : Instr} {is : List Instr} {s t : State} (h : exec i s = .next t) :
    execAll (i :: is) s = execAll is t := by
  rw [execAll, h]

/-- A state is its units, the configuration, the inputs, the responses and STATUS. -/
theorem state_eq_of_sameUnit {s t : State} (hcfg : s.cfg = t.cfg) (hpending : s.pending = t.pending)
    (hresponses : s.responses = t.responses) (hstatus : s.status = t.status) (hunit : ∀ u, SameUnit u s t) : s = t := by
  have hshb : s.shb = t.shb := hunit .shb
  have hdet : s.det = t.det := hunit .det
  have hoct : s.oct = t.oct := hunit .oct
  have hpsh : s.psh = t.psh := hunit .psh
  have hfbe : s.fbe = t.fbe := hunit .fbe
  have hffe : s.ffe = t.ffe := hunit .ffe
  have hrev : s.rev = t.rev := hunit .rev
  cases s
  cases t
  simp only [State.mk.injEq]
  exact ⟨hcfg, hpending, hresponses, hstatus, hshb, hdet, hoct, hpsh, hfbe, hffe, hrev⟩

/-- Commands of different units that answer alike before and after each other commute: only the responses change places. -/
theorem execAll_comm {i j : Instr} {s a b : State} (hne : i.unit ≠ j.unit) (hi : exec i s = .next a)
    (hj : exec j s = .next b) (hib : Alike i.unit s b (exec i s) (exec i b))
    (hja : Alike j.unit s a (exec j s) (exec j a)) :
    ∃ (t : State) (r p : ResponseWord), execAll [i, j] s = .next { t with responses := r :: p :: s.responses } ∧
      execAll [j, i] s = .next { t with responses := p :: r :: s.responses } := by
  obtain ⟨b', hb', m, p, hsamei, hpa, hpb, hma, hmb⟩ := hib a hi
  obtain ⟨a', ha', n, r, hsamej, hrb, hra, hnb, hna⟩ := hja b hj
  obtain ⟨hcfga, hpenda⟩ := exec_cfg_pending hi
  obtain ⟨hcfga', hpenda'⟩ := exec_cfg_pending ha'
  obtain ⟨hcfgb, hpendb⟩ := exec_cfg_pending hj
  obtain ⟨hcfgb', hpendb'⟩ := exec_cfg_pending hb'
  have hunit : ∀ u, SameUnit u b' a' := fun u => by
    by_cases hui : u = i.unit
    · rw [hui]
      exact sameUnit_trans (sameUnit_symm hsamei) (sameUnit_symm (sameUnit_of_ne ha' hne))
    · by_cases huj : u = j.unit
      · rw [huj]
        exact sameUnit_trans (sameUnit_of_ne hb' hne.symm) hsamej
      · exact sameUnit_trans (sameUnit_trans (sameUnit_of_ne hb' hui) (sameUnit_of_ne hj huj))
          (sameUnit_symm (sameUnit_trans (sameUnit_of_ne ha' huj) (sameUnit_of_ne hi hui)))
  have heq : b' = { a' with responses := p :: r :: s.responses } := by
    refine state_eq_of_sameUnit ?_ ?_ ?_ ?_ fun u => ?_
    · rw [hcfgb', hcfgb, hcfga', hcfga]
    · rw [hpendb', hpendb, hpenda', hpenda]
    · rw [hpb, hrb]
    · rw [hmb, hnb, hna, hma, BitVec.or_assoc, BitVec.or_assoc, BitVec.or_comm n]
    · have h := hunit u
      cases u <;> exact h
  refine ⟨a', r, p, ?_, ?_⟩
  · rw [execAll_cons hi, execAll_cons ha', execAll, ← hpa, ← hra]
  · rw [execAll_cons hj, execAll_cons hb', execAll, heq]

/-- SHB.PUSH leaves INITED and the cells behind the cursor. -/
theorem shbPush_keeps {s t : State} {v : Word32} (h : exec (.shbPush v) s = .next t) :
    s.shb.inited = t.shb.inited ∧ ∀ o, kMin ≤ o → o < s.cfg.n →
      Memory.read s.shb.hb (ring s.shb.cur o s.cfg.n) = Memory.read t.shb.hb (ring s.shb.cur o s.cfg.n) := by
  refine ⟨?_, fun o hlo hlt => (read_shbPush_of_ne h fun heq => ?_).symm⟩
  · exact ((exec_inited h 1).trans (by simp [inited])).symm
  · have hzero := (ring_eq_cursor_iff hlt).1 heq
    rw [hzero] at hlo
    exact absurd hlo (Nat.not_succ_le_zero 9)

/-- The cursor of a tick as an operand (R59): 16 bits hold it. -/
theorem toNat_cursor {s : State} (h : s.Inv) : (BitVec.ofNat 16 s.shb.cur).toNat = s.shb.cur := by
  have hn := (n_bounds_of_legal h.legal).2
  have hcur := h.cursor
  rw [BitVec.toNat_ofNat, Nat.mod_eq_of_lt]
  omega

/-- PUSH and a PROC with the current cursor commute, if PROC answers alike after PUSH. -/
theorem push_proc_comm {s : State} (h : s.Inv) (v : Word32) {i : Instr} (hunit : i.unit ≠ .shb)
    (halike : ∀ a, exec (.shbPush v) s = .next a → Alike i.unit s a (exec i s) (exec i a)) :
    ∃ (t : State) (r p : ResponseWord),
      execAll [.shbPush v, i] s = .next { t with responses := r :: p :: s.responses } ∧
      execAll [i, .shbPush v] s = .next { t with responses := p :: r :: s.responses } := by
  obtain ⟨a, ha⟩ := exec_completes h (.shbPush v)
  obtain ⟨b, hb⟩ := exec_completes h i
  have hshb : SameUnit .shb b s := sameUnit_of_ne hb hunit.symm
  exact execAll_comm hunit.symm ha hb (alike_shbPush (exec_cfg_pending hb).1.symm v hshb.symm) (halike a ha)

/-- Settles O30: the taps of an initialised unit lie in `[K_MIN, N)` behind the cursor. -/
theorem pushMayComeBeforeOrAfterProc : Obligations.PushMayComeBeforeOrAfterProc := by
  intro s v x i h hi
  rcases hi with rfl | ⟨g, rfl⟩
  · refine push_proc_comm h v nofun fun a ha => ?_
    obtain ⟨hinit, hcells⟩ := shbPush_keeps ha
    have hfbe : SameUnit .fbe a s := sameUnit_of_ne ha nofun
    refine alike_fbeProc (exec_cfg_pending ha).1.symm x hfbe.symm hinit fun hbit _ hlt => ?_
    rw [toNat_cursor h]
    exact hcells _ (h.fbe hbit).off.1 hlt
  · refine push_proc_comm h v (by cases g <;> nofun) fun a ha => ?_
    obtain ⟨hinit, hcells⟩ := shbPush_keeps ha
    have hgrain : SameUnit (EffectUnit.grain g).unit a s := sameUnit_of_ne ha (by cases g <;> nofun)
    rw [unit_grainProc]
    refine alike_grainProc (exec_cfg_pending ha).1.symm x (sameUnit_grain.1 hgrain).symm hinit fun hbit o ho _ hlt => ?_
    rw [toNat_cursor h]
    obtain ⟨-, hk2, -, hk1, -⟩ := grainTapsStayInBounds g s h hbit
    exact hcells _ (by rcases ho with rfl | rfl; exacts [hk1, hk2]) hlt

end Sys2Proof.Laws
end

section
/-! The invariant of the block is kept (R25, R81, R94): what each command leaves in its unit is good. -/

namespace Sys2Proof.Laws

open Sys2Proof.Machine Sys2Proof.Claims

/-! What the operands and the defaults are clamped into. -/

theorem fsMin_le_fsMax_of_legal {cfg : Config} (h : cfg.Legal) : cfg.fsMin ≤ cfg.fsMax := by
  obtain ⟨-, -, -, -, -, -, -, -, -, -, -, -, -, -, hfs, -⟩ := h
  exact hfs

theorem clamped_bounds {lo hi : Nat} (h : lo ≤ hi) (v : Word32) : lo ≤ clamped v lo hi ∧ clamped v lo hi ≤ hi :=
  ⟨le_clamped lo hi v, clamped_le h v⟩

theorem clampNat_zero_le (v hi : Nat) : clampNat v 0 hi ≤ hi := by
  rw [clampNat, Nat.zero_max]
  exact Nat.min_le_left hi v

theorem kMin_le_of_legal {cfg : Config} (h : cfg.Legal) : kMin ≤ cfg.n - 1 := Nat.le_sub_one_of_lt (n_bounds_of_legal h).1

theorem tapFor_bounds {cfg : Config} (h : cfg.Legal) (fs ms : Nat) :
    kMin ≤ tapFor cfg fs ms ∧ tapFor cfg fs ms ≤ cfg.n - 1 :=
  ⟨Nat.le_max_left .., Nat.max_le.2 ⟨kMin_le_of_legal h, Nat.min_le_left ..⟩⟩

theorem tap_clamped_bounds {cfg : Config} (h : cfg.Legal) (v : Word32) :
    kMin ≤ clamped v 10 (cfg.n - 1) ∧ clamped v 10 (cfg.n - 1) ≤ cfg.n - 1 :=
  clamped_bounds (kMin_le_of_legal h) v

theorem msOfTap_le (cfg : Config) (fs off : Nat) : msOfTap cfg fs off ≤ cfg.msMax := Nat.min_le_left ..

/-! The cleared filter states of REV (R124). -/

theorem zeroes_bounds : (Quad.all (0 : Int)).Forall fun v => -65536 ≤ v ∧ v ≤ 65536 :=
  forall_of_at4 fun k => by rw [at4_all]; omega

theorem zero_tone_bounds : -33554432 ≤ (0 : Int) ∧ (0 : Int) ≤ 33554432 := by omega

/-! What INIT leaves. -/

section
variable {cfg : Config} (h : cfg.Legal) (fs : Word32)
include h

theorem initialGrain_good (g : GrainId) :
    (initialGrain cfg (cfg.grain g) (clamped fs cfg.fsMin cfg.fsMax)).Good cfg (cfg.grain g) := by
  obtain ⟨hcycle, -, -, -, -, -, hshift⟩ := grainConfig_legal h g
  obtain ⟨-, -, -, -, -, -, hmix, hgain, -⟩ := id h
  exact {
    fs := clamped_bounds (fsMin_le_fsMax_of_legal h) fs
    shift := hshift
    mix := hmix
    gain := hgain
    derived := rfl
    tick := ⟨_, grainCycleLoad_atTick (u := grainRecompute (cfg.grain g) _) hcycle rfl⟩ }

theorem initialFbe_good : (initialFbe cfg (clamped fs cfg.fsMin cfg.fsMax)).Good cfg := by
  obtain ⟨-, -, -, -, -, -, -, -, -, -, -, -, -, -, -, -, -, hdecay, hgain, -⟩ := id h
  exact {
    fs := clamped_bounds (fsMin_le_fsMax_of_legal h) fs
    ms := clampNat_zero_le ..
    off := tapFor_bounds h ..
    decay := hdecay
    gain := hgain
    derived := rfl }

theorem initialFfe_good : (initialFfe cfg (clamped fs cfg.fsMin cfg.fsMax)).Good cfg := by
  obtain ⟨-, -, -, -, -, -, -, -, -, -, -, -, -, -, -, -, -, -, -, -, hlo, hhi, hdecay, hgain, -⟩ := id h
  exact {
    fs := clamped_bounds (fsMin_le_fsMax_of_legal h) fs
    ms := clampNat_zero_le ..
    off := tapFor_bounds h ..
    repeats := ⟨hlo, hhi⟩
    decay := hdecay
    gain := hgain
    derived := rfl }

theorem initialRev_good : (initialRev cfg (clamped fs cfg.fsMin cfg.fsMax)).Good cfg := by
  obtain ⟨-, -, -, -, -, -, -, -, -, -, -, -, -, -, -, -, -, -, -, -, -, -, -, -, htime, hgain, -⟩ := id h
  exact {
    fs := clamped_bounds (fsMin_le_fsMax_of_legal h) fs
    time := htime
    gain := hgain
    derived := rfl
    z := zeroes_bounds
    tcz := zero_tone_bounds }

end

/-! What a SET leaves. -/

section
variable {cfg : Config} (h : cfg.Legal) (v : Word32) (k : Nat)
include h

theorem grainStore_good {g : GrainId} {u : Grain} (hu : u.Good cfg (cfg.grain g)) :
    (grainRecompute (cfg.grain g) (grainStore (cfg.grain g) v u k)).Good cfg (cfg.grain g) := by
  obtain ⟨-, -, -, -, hshift, -⟩ := grainConfig_legal h g
  match k with
  | 0 => exact ⟨hu.fs, clamped_bounds hshift v, hu.mix, hu.gain, rfl, hu.tick⟩
  | 1 => exact ⟨hu.fs, hu.shift, clamped_le (by omega) v, hu.gain, rfl, hu.tick⟩
  | _ + 2 => exact ⟨hu.fs, hu.shift, hu.mix, clamped_le (by omega) v, rfl, hu.tick⟩

theorem fbeStore_good {u : Fbe} (hu : u.Good cfg) : (fbeRecompute cfg (fbeStore cfg v u k)).Good cfg := by
  match k with
  | 0 => exact ⟨hu.fs, clamped_le (Nat.zero_le _) v, tapFor_bounds h .., hu.decay, hu.gain, rfl⟩
  | 1 => exact ⟨hu.fs, hu.ms, hu.off, clamped_le (Nat.zero_le _) v, hu.gain, rfl⟩
  | 2 => exact ⟨hu.fs, hu.ms, hu.off, hu.decay, clamped_le (Nat.zero_le _) v, rfl⟩
  | _ + 3 => exact ⟨hu.fs, msOfTap_le .., tap_clamped_bounds h v, hu.decay, hu.gain, rfl⟩

theorem ffeStore_good {u : Ffe} (hu : u.Good cfg) : (ffeRecompute (ffeStore cfg v u k)).Good cfg := by
  match k with
  | 0 => exact ⟨hu.fs, clamped_le (Nat.zero_le _) v, tapFor_bounds h .., hu.repeats, hu.decay, hu.gain, rfl⟩
  | 1 => exact ⟨hu.fs, hu.ms, hu.off, clamped_bounds (by omega) v, hu.decay, hu.gain, rfl⟩
  | 2 => exact ⟨hu.fs, hu.ms, hu.off, hu.repeats, clamped_le (Nat.zero_le _) v, hu.gain, rfl⟩
  | 3 => exact ⟨hu.fs, hu.ms, hu.off, hu.repeats, hu.decay, clamped_le (Nat.zero_le _) v, rfl⟩
  | _ + 4 => exact ⟨hu.fs, msOfTap_le .., tap_clamped_bounds h v, hu.repeats, hu.decay, hu.gain, rfl⟩

end

theorem revStore_good {cfg : Config} (v : Word32) (k : Nat) {u : Rev} (hu : u.Good cfg) : (revClear (revRecompute cfg (revStore cfg v u k))).Good cfg := by
  match k with
  | 0 => exact ⟨hu.fs, clamped_le (Nat.zero_le _) v, hu.gain, rfl, zeroes_bounds, zero_tone_bounds⟩
  | _ + 1 => exact ⟨hu.fs, hu.time, clamped_le (Nat.zero_le _) v, rfl, zeroes_bounds, zero_tone_bounds⟩

/-! What a PROC leaves. -/

theorem grainAdvance_good {cfg : Config} {gc : GrainConfig} {u : Grain} (hu : u.Good cfg gc) :
    (grainAdvance gc u).Good cfg gc := by
  have htick := grainAdvance_atTick hu.derived hu.tick
  obtain ⟨i, k1, k2, d, ad2, ad3, hframe⟩ := grainAdvance_frame gc u
  rw [hframe] at htick ⊢
  exact ⟨hu.fs, hu.shift, hu.mix, hu.gain,
    congrArg (fun w : Grain => { w with i := i, k1 := k1, k2 := k2, d := d, ad2 := ad2, ad3 := ad3 }) hu.derived, htick⟩

theorem revTick_good {cfg : Config} {u : Rev} (h : cfg.Legal) (hu : u.Good cfg) (x : Int) : (revTick cfg u x).Good cfg := by
  have hfs : 0 < u.fs := (fsMin_pos_of_legal h).trans_le hu.fs.1
  have hcoeff : ∀ k, at4 u.gc k + at4 u.gp k ≤ 32768 := fun k => by
    rw [← hu.derived]
    exact revRecompute_gc_add_gp_le hfs (t60ny_pos_of_legal h) k
  obtain ⟨-, -, -, -, -, -, -, -, -, -, htca, -⟩ := id h
  have htaps := revTaps_bounds cfg u
  exact {
    fs := hu.fs
    time := hu.time
    gain := hu.gain
    derived := congrArg (fun w : Rev => { w with z := (revTick cfg u x).z, rb := (revTick cfg u x).rb,
                                                 tcz := (revTick cfg u x).tcz, rcur := (revTick cfg u x).rcur }) hu.derived
    z := forall_of_at4 (revDamp_bounds hcoeff (revMix_bounds htaps) (at4_of_forall hu.z))
    tcz := revTone_bounds htca hu.tcz (quadSum_bounds htaps) }

theorem nextCursor_lt {c n : Nat} (h : c < n) : nextCursor c n < n := by
  rw [nextCursor_eq_mod h]
  exact Nat.mod_lt _ (Nat.zero_lt_of_lt h)

/-- Each line of REV stays canonical and inside its size. -/
theorem revTick_rb_ok {cfg : Config} {u : Rev} (hcur : u.rcur < cfg.lineLen)
    (hrb : u.rb.Forall fun m => Memory.wf m = true ∧ Memory.Below m cfg.lineLen) (x : Int) :
    (revTick cfg u x).rb.Forall fun m => Memory.wf m = true ∧ Memory.Below m cfg.lineLen := by
  refine forall_of_at4 fun k => ?_
  obtain ⟨hwf, hbelow⟩ := at4_of_forall hrb k
  rw [at4_revTick_rb]
  exact ⟨wf_write hwf _ _, below_write hbelow hcur _⟩

/-! The invariant with one unit replaced. -/

theorem emptyLines_ok (n : Nat) : (Quad.all ([] : Memory)).Forall fun m => Memory.wf m = true ∧ Memory.Below m n :=
  forall_of_at4 fun k => by rw [at4_all]; exact ⟨wf_nil, nofun⟩

/-- The bits that commands set exist. -/
theorem reserved_of_gainsBits {w v : BitVec 32} (hw : w &&& ~~~statusMask = 0) (h : GainsBits w v) :
    v &&& ~~~statusMask = 0 := by
  obtain ⟨m, hm, rfl⟩ := h
  rw [BitVec.and_or_distrib_right, hw, hm]
  rfl

section
variable {s : State} (h : s.Inv)
include h

theorem inv_setGrain {g : GrainId} {u : Grain} (hu : u.inited = true → u.Good s.cfg (s.cfg.grain g)) :
    (s.setGrain g u).Inv where
  legal := by rw [setGrain_cfg]; exact h.legal
  status := by rw [setGrain_status]; exact h.status
  cursor := by rw [setGrain_shb, setGrain_cfg]; exact h.cursor
  hb := by rw [setGrain_shb, setGrain_cfg]; exact h.hb
  rcursor := by rw [setGrain_rev, setGrain_cfg]; exact h.rcursor
  rb := by rw [setGrain_rev, setGrain_cfg]; exact h.rb
  grain g' := by
    rw [setGrain_cfg]
    by_cases hg : g' = g
    · rw [hg, setGrain_grain_same]
      exact hu
    · rw [setGrain_grain_other _ _ _ _ hg]
      exact h.grain g'
  fbe := by rw [setGrain_fbe, setGrain_cfg]; exact h.fbe
  ffe := by rw [setGrain_ffe, setGrain_cfg]; exact h.ffe
  rev := by rw [setGrain_rev, setGrain_cfg]; exact h.rev

theorem inv_setShb {u : Shb} (hcur : u.cur < s.cfg.n) (hwf : u.hb.wf = true) (hbelow : Memory.Below u.hb s.cfg.n) :
    State.Inv { s with shb := u } :=
  ⟨h.legal, h.status, hcur, ⟨hwf, hbelow⟩, h.rcursor, h.rb, h.grain, h.fbe, h.ffe, h.rev⟩

theorem inv_setFbe {u : Fbe} (hu : u.Good s.cfg) : State.Inv { s with fbe := u } :=
  ⟨h.legal, h.status, h.cursor, h.hb, h.rcursor, h.rb, h.grain, fun _ => hu, h.ffe, h.rev⟩

theorem inv_setFfe {u : Ffe} (hu : u.Good s.cfg) : State.Inv { s with ffe := u } :=
  ⟨h.legal, h.status, h.cursor, h.hb, h.rcursor, h.rb, h.grain, h.fbe, fun _ => hu, h.rev⟩

theorem inv_setRev {u : Rev} (hcur : u.rcur < s.cfg.lineLen)
    (hrb : u.rb.Forall fun m => Memory.wf m = true ∧ Memory.Below m s.cfg.lineLen) (hu : u.Good s.cfg) :
    State.Inv { s with rev := u } :=
  ⟨h.legal, h.status, h.cursor, h.hb, hcur, hrb, h.grain, h.fbe, h.ffe, fun _ => hu⟩

theorem inv_started (e : EffectUnit) (fs : Word32) : (e.started fs s).Inv := by
  rcases e with g | _ | _ | _
  · exact inv_setGrain h fun _ => initialGrain_good h.legal fs g
  · exact inv_setFbe h (initialFbe_good h.legal fs)
  · exact inv_setFfe h (initialFfe_good h.legal fs)
  · exact inv_setRev h (lineLen_pos_of_legal h.legal) (emptyLines_ok _) (initialRev_good h.legal fs)

theorem inv_stored (e : EffectUnit) (v : Word32) (k : Nat) (hinit : e.isInited s = true) : (e.stored v k s).Inv := by
  rcases e with g | _ | _ | _
  · exact inv_setGrain h fun _ => grainStore_good h.legal v k (h.grain g hinit)
  · exact inv_setFbe h (fbeStore_good h.legal v k (h.fbe hinit))
  · exact inv_setFfe h (ffeStore_good h.legal v k (h.ffe hinit))
  · refine inv_setRev h ?_ (emptyLines_ok _) (revStore_good v k (h.rev hinit))
    rcases k with _ | k <;> exact h.rcursor

/-- No rule of the invariant reads ENABLE. -/
theorem inv_switched (e : EffectUnit) (on : Bool) (hinit : e.isInited s = true) : (e.switched on s).Inv := by
  rcases e with g | _ | _ | _
  · have hu := h.grain g hinit
    exact inv_setGrain h fun _ => ⟨hu.fs, hu.shift, hu.mix, hu.gain,
      congrArg (fun w : Grain => { w with enable := on }) hu.derived, hu.tick⟩
  · have hu := h.fbe hinit
    exact inv_setFbe h ⟨hu.fs, hu.ms, hu.off, hu.decay, hu.gain, congrArg (fun w : Fbe => { w with enable := on }) hu.derived⟩
  · have hu := h.ffe hinit
    exact inv_setFfe h ⟨hu.fs, hu.ms, hu.off, hu.repeats, hu.decay, hu.gain,
      congrArg (fun w : Ffe => { w with enable := on }) hu.derived⟩
  · have hu := h.rev hinit
    exact inv_setRev h h.rcursor h.rb ⟨hu.fs, hu.time, hu.gain, congrArg (fun w : Rev => { w with enable := on }) hu.derived,
      hu.z, hu.tcz⟩

theorem inv_exec {i : Instr} {t : State} (ht : exec i s = .next t) : t.Inv := by
  have hcases := exec_next_cases (Q := fun _ s' => s'.Inv) (read := fun _ _ => h)
    (shbInit := inv_setShb h (n_pos_of_legal h.legal) wf_nil nofun)
    (shbPush := fun _ _ _ hcur => inv_setShb h (nextCursor_lt hcur) (wf_write h.hb.1 _ _) (below_write h.hb.2 hcur _))
    (init := fun e fs => inv_started h e fs) (set := fun e v k hinit => inv_stored h e v k hinit)
    (switch := fun e on hinit => inv_switched h e on hinit)
    (grainProc := fun g _ _ y hinit => inv_setGrain
      (inv_of_reply h (reserved_of_gainsBits h.status (gainsBits_noteNarrowing y (wrap16 y) s.status)) s.pending s.responses)
      fun _ => grainAdvance_good (h.grain g hinit))
    (revProc := fun _ hinit _ => inv_setRev h (nextCursor_lt h.rcursor) (revTick_rb_ok h.rcursor h.rb _)
      (revTick_good h.legal (h.rev hinit) _)) ht
  rcases hcases with ⟨c, rfl⟩ | ⟨v, s', h', rfl⟩
  · exact inv_of_reply h (reserved_of_gainsBits h.status (gainsBits_faulted c s)) s.pending _
  · exact inv_of_reply h' h'.status s'.pending _

end

/-- Settles O10, by what the step accepts. -/
theorem everyStepKeepsTheInvariant : Obligations.EveryStepKeepsTheInvariant := by
  intro s t h ht
  rcases step_next ht with ⟨-, rfl⟩ | ⟨rest, -, rfl⟩ | ⟨w, rest, c, -, -, -, ht⟩ | ⟨w, rest, i, -, -, -, ht⟩
  · exact h
  · exact inv_of_reply (inv_resetWith h.legal) (inv_resetWith h.legal).status rest s.responses
  · rw [takeFault_eq_faulted] at ht
    cases ht
    exact inv_of_reply h (reserved_of_gainsBits h.status (gainsBits_faulted c s)) rest _
  · exact inv_exec (inv_of_reply h h.status rest s.responses) ht

end Sys2Proof.Laws
end

section
/-! A grain unit goes round its cycle (R95). -/

namespace Sys2Proof.Laws

open Sys2Proof.Machine Sys2Proof.Claims

/-! The ticks alone. -/

section
variable {gc : GrainConfig} {u : Grain} {dy : Nat}

theorem iterate_grainAdvance_frame (gc : GrainConfig) (u : Grain) (m : Nat) : ∃ i k1 k2 d ad2 ad3,
    (grainAdvance gc)^[m] u = { u with i := i, k1 := k1, k2 := k2, d := d, ad2 := ad2, ad3 := ad3 } := by
  induction m with
  | zero => exact ⟨_, _, _, _, _, _, rfl⟩
  | succ m ih =>
    obtain ⟨i, k1, k2, d, ad2, ad3, hm⟩ := ih
    obtain ⟨i', k1', k2', d', ad2', ad3', hframe⟩ := grainAdvance_frame gc ((grainAdvance gc)^[m] u)
    rw [Function.iterate_succ_apply', hframe, hm]
    exact ⟨i', k1', k2', d', ad2', ad3', rfl⟩

/-- Inside the cycle `m` ticks lead `m` ticks on. -/
theorem iterate_grainAdvance_atTick (h : u.AtTick gc dy) {m : Nat} (hm : u.i + m < gc.cycle) :
    ((grainAdvance gc)^[m] u).AtTick gc dy ∧ ((grainAdvance gc)^[m] u).i = u.i + m := by
  induction m with
  | zero => exact ⟨h, rfl⟩
  | succ m ih =>
    obtain ⟨htick, hi⟩ := ih (by omega)
    rw [Function.iterate_succ_apply', grainAdvance_of_lt (by omega)]
    obtain ⟨htick', hi'⟩ := atTick_grainStep htick (by omega)
    exact ⟨htick', by omega⟩

/-- The ticks that are left of a cycle end in the cycle load. -/
theorem iterate_grainAdvance_to_end (h : u.AtTick gc dy) :
    (grainAdvance gc)^[gc.cycle - u.i] u = grainCycleLoad u := by
  have hi : u.i < gc.cycle := h.2.1
  obtain ⟨m, hm⟩ : ∃ m, gc.cycle - u.i = m + 1 := ⟨gc.cycle - u.i - 1, by omega⟩
  obtain ⟨-, hlast⟩ := iterate_grainAdvance_atTick h (m := m) (by omega)
  obtain ⟨i, k1, k2, d, ad2, ad3, hframe⟩ := iterate_grainAdvance_frame gc u m
  rw [hm, Function.iterate_succ_apply', grainAdvance_of_last (by omega), hframe]
  rfl

/-- A whole cycle of its own geometry leads a unit back to itself. -/
theorem iterate_grainAdvance_cycle (hder : grainRecompute gc u = u) (h : u.AtTick gc dy) (had3 : u.ad3 = u.d3) :
    (grainAdvance gc)^[gc.cycle] u = u := by
  obtain ⟨-, hi, -, hrate, -⟩ := id h
  have hd3 : u.d3 = 2 * u.dy := by rw [← hder]; rfl
  obtain rfl : dy = u.dy := by omega
  have hsplit : gc.cycle = u.i + (gc.cycle - u.i) := by omega
  have hstart := grainCycleLoad_atTick (Nat.zero_lt_of_lt hi) hder
  have hzero : (grainCycleLoad u).i + u.i = u.i := Nat.zero_add u.i
  obtain ⟨htick, hphase⟩ := iterate_grainAdvance_atTick hstart (m := u.i) (by omega)
  obtain ⟨i, k1, k2, d, ad2, ad3, hframe⟩ := iterate_grainAdvance_frame gc (grainCycleLoad u) u.i
  rw [hsplit, Function.iterate_add_apply, iterate_grainAdvance_to_end h, hframe]
  rw [hframe] at htick hphase
  exact eq_of_atTick h htick (hphase.trans hzero)

end

/-! The commands. -/

/-- PROC of legal operands is one tick of its unit, and keeps what the next PROC needs. -/
theorem exec_grainProc_tick {s : State} {g : GrainId} {c : BitVec 16} {x : Word32} (h : s.Inv)
    (hinit : (s.grain g).inited = true) (hshb : s.shb.inited = true) (hc : c.toNat < s.cfg.n) (hx : IsSample x) :
    ∃ t, exec (Instr.grainProc c x g) s = .next t ∧ t.Inv ∧ t.cfg = s.cfg ∧ t.shb = s.shb ∧
      t.grain g = grainAdvance (s.cfg.grain g) (s.grain g) := by
  obtain ⟨-, -, hk1, -, hk2⟩ := grain_ranges h hinit
  have hexec := exec_grainProc_of_taps hinit hshb hc hx hk1 hk2
  rw [grainFinish_eq] at hexec
  refine ⟨_, hexec, inv_exec h hexec, setGrain_cfg .., setGrain_shb .., setGrain_grain_same ..⟩

/-- PROCs of legal operands are as many ticks. -/
theorem execAll_grainProc {g : GrainId} (ops : List (BitVec 16 × Word32)) {s : State} (h : s.Inv)
    (hinit : (s.grain g).inited = true) (hshb : s.shb.inited = true)
    (hops : ∀ p ∈ ops, p.1.toNat < s.cfg.n ∧ IsSample p.2) :
    ∃ t, execAll (ops.map fun p => Instr.grainProc p.1 p.2 g) s = .next t ∧
      t.grain g = (grainAdvance (s.cfg.grain g))^[ops.length] (s.grain g) := by
  induction ops generalizing s with
  | nil => exact ⟨s, rfl, rfl⟩
  | cons p ops ih =>
    obtain ⟨hp, hrest⟩ := List.forall_mem_cons.1 hops
    obtain ⟨t, ht, hinv, hcfg, hshb', hgrain⟩ := exec_grainProc_tick h hinit hshb hp.1 hp.2
    obtain ⟨r, hr, hiterate⟩ := ih hinv (by rw [hgrain, grainAdvance_inited]; exact hinit) (by rw [hshb']; exact hshb)
      (by rw [hcfg]; exact hrest)
    refine ⟨r, (execAll_cons ht).trans hr, ?_⟩
    rw [hiterate, hcfg, hgrain]
    rfl

/-- Settles O37: `C` ticks are those to the end of the cycle and as many as the phase from its start. -/
theorem grainCycleIsPeriodic : Obligations.GrainCycleIsPeriodic := by
  intro g ops s h hinit hshb hops
  obtain ⟨t, ht, hgrain⟩ := execAll_grainProc ops h hinit hshb hops
  have hgood := h.grain g hinit
  obtain ⟨dy, htick⟩ := hgood.tick
  refine ⟨fun hlength _ had3 => ⟨t, ht, ?_⟩, fun hlength => ⟨t, ht, ?_⟩⟩
  · rw [hgrain, hlength]
    exact iterate_grainAdvance_cycle hgood.derived htick had3
  · rw [hgrain, hlength, iterate_grainAdvance_to_end htick]
    exact ⟨grainCycleLoad_atCycleStart _, rfl⟩

end Sys2Proof.Laws
end

section
/-! HB as the list of the samples pushed, the last one first (R69). -/

namespace Sys2Proof.Laws

open Sys2Proof.Machine Sys2Proof.Claims

/-- The sample pushed `o` pushes before the last one. -/
def history (s : State) (o : Nat) : Int := cellAt s.shb.hb ((s.shb.cur : Int) - 1 - o) s.cfg.n

theorem cellAt_congr {m : Memory} {n : Nat} {k k' : Int} (h : k % n = k' % n) : cellAt m k n = cellAt m k' n := by
  rw [cellAt, h, cellAt]

theorem cellAt_sub_eq_read {c o n : Nat} (hc : c < n) (ho : o < n) (m : Memory) :
    cellAt m ((c : Int) - o) n = (Memory.read m (ring c o n)).toInt := by
  rw [cellAt, ← ring_eq_sub_emod hc ho, Int.toNat_natCast]

/-- The cell at offset `o` behind the cursor is that of the sample pushed `o - 1` pushes before the last. -/
theorem cellAt_cursor_eq_history {o : Nat} (ho : 0 < o) (s : State) :
    cellAt s.shb.hb ((s.shb.cur : Int) - o) s.cfg.n = history s (o - 1) :=
  cellAt_congr (congrArg (· % _) (by omega))

/-- The cursor's cell written and the cursor advanced, seen behind the new cursor. -/
theorem cellAt_write_cursor {m : Memory} {c n o : Nat} {x : Word32} (hm : Memory.wf m = true) (hc : c < n) (ho : o < n)
    (hx : IsSample x) :
    cellAt (m.write c (cellOf x.toInt)) ((((c + 1) % n : Nat) : Int) - 1 - o) n =
      if o = 0 then x.toInt else cellAt m ((c : Int) - 1 - (o - 1 : Nat)) n := by
  have hposition : ((((c + 1) % n : Nat) : Int) - 1 - o) % n = ((c : Int) - o) % n := by
    rw [Int.sub_sub, Int.natCast_mod, Int.emod_sub_emod]
    exact congrArg (· % _) (by omega)
  rw [cellAt_congr hposition, cellAt_sub_eq_read hc ho, toInt_read_write_cellOf hm hx]
  refine if_ctx_congr (ring_eq_cursor_iff ho) (fun _ => rfl) fun hne => ?_
  rw [← cellAt_sub_eq_read hc ho]
  exact cellAt_congr (congrArg (· % _) (by omega))

/-- SHB.PUSH adds one sample to the history. -/
theorem exec_shbPush_history {s : State} {x : Word32} (h : s.Inv) (hinit : s.shb.inited = true) (hx : IsSample x) :
    ∃ t, exec (.shbPush x) s = .next t ∧ t.Inv ∧ t = { s with shb := t.shb, responses := t.responses } ∧
      t.shb.inited = true ∧ t.shb.cur = (s.shb.cur + 1) % s.cfg.n ∧ (∃ r, t.responses = r :: s.responses) ∧
      ∀ o < s.cfg.n, history t o = if o = 0 then x.toInt else history s (o - 1) := by
  have hexec := exec_shbPush hinit h.cursor hx
  exact ⟨_, hexec, inv_exec h hexec, rfl, rfl, rfl, ⟨_, rfl⟩, fun o ho => cellAt_write_cursor h.hb.1 h.cursor ho hx⟩

/-- Pushes add their samples in order. -/
theorem execAll_shbPush_history (xs : List Word32) {s : State} (h : s.Inv) (hinit : s.shb.inited = true)
    (hxs : ∀ x ∈ xs, IsSample x) :
    ∃ t, execAll (xs.map .shbPush) s = .next t ∧ t = { s with shb := t.shb, responses := t.responses } ∧
      t.shb.inited = true ∧ t.shb.cur = (s.shb.cur + xs.length) % s.cfg.n ∧
      ∀ o < s.cfg.n, history t o =
        if o < xs.length then (xs.getD (xs.length - 1 - o) 0).toInt else history s (o - xs.length) := by
  induction xs generalizing s with
  | nil => exact ⟨s, rfl, rfl, hinit, (Nat.mod_eq_of_lt h.cursor).symm, fun o _ => (if_neg (Nat.not_lt_zero o)).symm⟩
  | cons x xs ih =>
    obtain ⟨hx, hxs⟩ := List.forall_mem_cons.1 hxs
    obtain ⟨t, ht, hinv, hframe, hinit', hcur, -, hhistory⟩ := exec_shbPush_history h hinit hx
    have hcfg : t.cfg = s.cfg := (exec_cfg_pending ht).1
    obtain ⟨r, hr, hframe', hinit'', hcur', hhistory'⟩ := ih hinv hinit' hxs
    refine ⟨r, (execAll_cons ht).trans hr, ?_, hinit'', ?_, fun o ho => ?_⟩
    · rw [hframe', hframe]
    · rw [hcur', hcur, hcfg, Nat.mod_add_mod, List.length_cons]
      exact congrArg (· % _) (by omega)
    · rw [hhistory' o (hcfg ▸ ho), List.length_cons]
      rcases Nat.lt_trichotomy o xs.length with hlt | heq | hgt
      · have hindex : xs.length + 1 - 1 - o = xs.length - 1 - o + 1 := by omega
        rw [if_pos hlt, if_pos (by omega), hindex, List.getD_cons_succ]
      · rw [if_neg (by omega), if_pos (by omega), heq, Nat.sub_self, hhistory 0 (Nat.zero_lt_of_lt ho), if_pos rfl,
          Nat.add_sub_cancel, Nat.sub_self, List.getD_cons_zero]
      · rw [if_neg (by omega), if_neg (by omega), hhistory _ (by omega), if_neg (by omega), Nat.sub_sub]

/-- Settles O29. -/
theorem pushedHistoryReadsBack : Obligations.PushedHistoryReadsBack := by
  intro s xs h hinit hxs
  obtain ⟨t, ht, hframe, hinit', hcur, hhistory⟩ := execAll_shbPush_history xs h hinit hxs
  have hcfg : t.cfg = s.cfg := by rw [hframe]
  refine ⟨t, ht, hframe, hinit', hcur, fun o ho => ?_⟩
  have hcell : cellAt t.shb.hb ((t.shb.cur : Int) - 1 - o) s.cfg.n = history t o := by rw [← hcfg]; rfl
  rw [hcell, hhistory o ho]
  split
  · rfl
  next hle => exact cellAt_congr (congrArg (· % _) (by omega))

end Sys2Proof.Laws
end

section
/-! The recirculating feedback echo (R108, R109): its tick as an equation over the history, and the impulse response by
induction on the ticks. -/

namespace Sys2Proof.Laws

open Sys2Proof.Machine Sys2Proof.Claims

/-! One tick. -/

/-- What FBE.PROC answers to `x` with the current cursor (R106). -/
def echoOutput (s : State) (x : Word32) : Int :=
  clip ((s.fbe.scale * x.toInt + s.fbe.decay * history s (s.fbe.off - 1)).tdiv 32768)

theorem clip_bounds (v : Int) : -32768 ≤ clip v ∧ clip v ≤ 32767 := by
  unfold clip
  omega

theorem clip_of_bounds {v : Int} (h : -32768 ≤ v ∧ v ≤ 32767) : clip v = v := by
  unfold clip
  omega

/-- A sample survives the response word and the operand (R50, R57). -/
theorem toInt_setWidth_word {v : Int} (h : -32768 ≤ v ∧ v ≤ 32767) :
    ((word 0 (BitVec.ofInt 32 v)).setWidth 32).toInt = v := by
  have hword : (word 0 (BitVec.ofInt 32 v)).setWidth 32 = BitVec.ofInt 32 v := by
    apply BitVec.eq_of_toNat_eq
    rw [word, BitVec.toNat_setWidth, BitVec.toNat_ofNat]
    have hlt := (BitVec.ofInt 32 v).isLt
    omega
  rw [hword, BitVec.toInt_ofInt, Int.bmod_eq_of_le] <;> omega

section
variable {s : State} (h : s.Inv) (hfbe : s.fbe.inited = true) (hshb : s.shb.inited = true)
include h hfbe hshb

theorem exec_fbeProc_cursor {x : Word32} (hx : IsSample x) :
    exec (.fbeProc (BitVec.ofNat 16 s.shb.cur) x) s = .next (replied (BitVec.ofInt 32 (echoOutput s x)) s) := by
  have hc := toNat_cursor h
  obtain ⟨-, -, hanswer⟩ := feedbackEchoProcAnswers (BitVec.ofNat 16 s.shb.cur) x s
  have htap : tap s (BitVec.ofNat 16 s.shb.cur) s.fbe.off = history s (s.fbe.off - 1) := by
    rw [tap, hc]
    exact cellAt_cursor_eq_history (Nat.zero_lt_of_lt (h.fbe hfbe).off.1) s
  rw [hanswer hfbe hshb (fbe_off_lt h hfbe) (hc.trans_lt h.cursor) hx, htap]
  rfl

/-- One tick pushes what it answers. -/
theorem echoTick_history {x : Word32} (hx : IsSample x) :
    ∃ t, echoTick x s = .next t ∧ t.Inv ∧ t.cfg = s.cfg ∧ t.fbe = s.fbe ∧ t.shb.inited = true ∧
      t.responses[1]? = some (word 0 (BitVec.ofInt 32 (echoOutput s x))) ∧
      ∀ o < s.cfg.n, history t o = if o = 0 then echoOutput s x else history s (o - 1) := by
  have hproc := exec_fbeProc_cursor h hfbe hshb hx
  have hy := toInt_setWidth_word (clip_bounds ((s.fbe.scale * x.toInt + s.fbe.decay * history s (s.fbe.off - 1)).tdiv 32768))
  have hsample : IsSample ((word 0 (BitVec.ofInt 32 (echoOutput s x))).setWidth 32) := by
    rw [IsSample, show ((word 0 (BitVec.ofInt 32 (echoOutput s x))).setWidth 32).toInt = _ from hy]
    exact clip_bounds _
  obtain ⟨t, ht, hinv, hframe, hinit, -, ⟨r, hr⟩, hhistory⟩ := exec_shbPush_history (inv_exec h hproc) hshb hsample
  have htick : echoTick x s = .next t := by
    rw [echoTick, hproc]
    exact ht
  have hunit : t.fbe = s.fbe := by rw [hframe]; rfl
  refine ⟨t, htick, hinv, (exec_cfg_pending ht).1, hunit, hinit, by rw [hr]; rfl, fun o ho => ?_⟩
  rw [hhistory o ho, show ((word 0 (BitVec.ofInt 32 (echoOutput s x))).setWidth 32).toInt = _ from hy]
  rfl

end

/-! The response to an impulse. -/

theorem echoRun_snoc {xs : List Word32} {x : Word32} {s t : State} (h : echoRun xs s = .next t) :
    echoRun (xs ++ [x]) s = echoTick x t := by
  induction xs generalizing s with
  | nil =>
    cases h
    rw [List.nil_append, echoRun]
    cases echoTick x t <;> rfl
  | cons y ys ih =>
    rw [List.cons_append, echoRun]
    rw [echoRun] at h
    cases hy : echoTick y s with
    | next r => rw [hy] at h; exact ih h
    | fault f => rw [hy] at h; cases h
    | refused r => rw [hy] at h; cases h

/-- Tick `m` of the impulse response (R109). -/
def impulseResponse (u : Fbe) (a : Int) (m : Nat) : Int :=
  if u.off ∣ m then echoHeight u.scale u.decay a (m / u.off) else 0

/-- The echoes of a sample are samples. -/
theorem echoHeight_bounds {scale decay : Nat} {a : Int} (hscale : scale ≤ 32768) (hdecay : decay ≤ 32768)
    (ha : -32768 ≤ a ∧ a ≤ 32767) (k : Nat) :
    -32768 ≤ echoHeight scale decay a k ∧ echoHeight scale decay a k ≤ 32767 := by
  induction k with
  | zero =>
    have hmove := fraction_tdiv_bounds hscale a
    rw [echoHeight]
    omega
  | succ k ih =>
    have hmove := fraction_tdiv_bounds hdecay (echoHeight scale decay a k)
    rw [echoHeight]
    omega

section
variable {u : Fbe} {a : Int}

theorem impulseResponse_of_dvd {m : Nat} (h : u.off ∣ m) :
    impulseResponse u a m = echoHeight u.scale u.decay a (m / u.off) := if_pos h

theorem impulseResponse_of_not_dvd {m : Nat} (h : ¬u.off ∣ m) : impulseResponse u a m = 0 := if_neg h

theorem impulseResponse_bounds (hscale : u.scale ≤ 32768) (hdecay : u.decay ≤ 32768) (ha : -32768 ≤ a ∧ a ≤ 32767)
    (m : Nat) : -32768 ≤ impulseResponse u a m ∧ impulseResponse u a m ≤ 32767 := by
  by_cases h : u.off ∣ m
  · rw [impulseResponse_of_dvd h]
    exact echoHeight_bounds hscale hdecay ha _
  · rw [impulseResponse_of_not_dvd h]
    omega

theorem impulseResponse_zero : impulseResponse u a 0 = (u.scale * a).tdiv 32768 := by
  rw [impulseResponse_of_dvd (Nat.dvd_zero _), Nat.zero_div, echoHeight]

/-- A tick of the response is the decay of what the history holds at the tap. -/
theorem impulseResponse_succ (hoff : 0 < u.off) (m : Nat) : impulseResponse u a (m + 1) =
    (u.decay * if u.off - 1 ≤ m then impulseResponse u a (m - (u.off - 1)) else 0).tdiv 32768 := by
  by_cases h : u.off ∣ m + 1
  · obtain ⟨k, hk⟩ := h
    obtain ⟨j, rfl⟩ : ∃ j, k = j + 1 := Nat.exists_eq_succ_of_ne_zero (by rintro rfl; omega)
    rw [Nat.mul_succ] at hk
    have hprev : m - (u.off - 1) = u.off * j := by omega
    have hnow : m + 1 = u.off * (j + 1) := hk
    rw [if_pos (by omega), hprev, hnow, impulseResponse_of_dvd (Nat.dvd_mul_right ..),
      impulseResponse_of_dvd (Nat.dvd_mul_right ..), Nat.mul_div_cancel_left _ hoff, Nat.mul_div_cancel_left _ hoff,
      echoHeight]
  · rw [impulseResponse_of_not_dvd h]
    split
    next hle =>
      have hnot : ¬u.off ∣ m - (u.off - 1) := fun hdvd => h (by
        have hsum : m + 1 = m - (u.off - 1) + u.off := by omega
        rw [hsum]
        exact Nat.dvd_add hdvd (Nat.dvd_refl _))
      rw [impulseResponse_of_not_dvd hnot, Int.mul_zero, Int.zero_tdiv]
    next => rw [Int.mul_zero, Int.zero_tdiv]

end

/-- After tick `m` of the impulse: the answer is tick `m` of the response, and the history holds the ticks before. -/
def AfterImpulse (s : State) (a : Int) (m : Nat) (t : State) : Prop :=
  t.Inv ∧ t.cfg = s.cfg ∧ t.fbe = s.fbe ∧ t.shb.inited = true ∧
    t.responses[1]? = some (word 0 (BitVec.ofInt 32 (impulseResponse s.fbe a m))) ∧
    ∀ o < s.cfg.n, history t o = if o ≤ m then impulseResponse s.fbe a (m - o) else 0

theorem echoRun_impulse {s : State} {a : Word32} (h : s.Inv) (hfbe : s.fbe.inited = true) (hshb : s.shb.inited = true)
    (hzero : ∀ i, Memory.read s.shb.hb i = 0) (ha : IsSample a) (m : Nat) :
    ∃ t, echoRun (a :: List.replicate m 0) s = .next t ∧ AfterImpulse s a.toInt m t := by
  obtain ⟨-, -, hofflo, hdecay, hgain, -⟩ := id (h.fbe hfbe)
  have hoff : 0 < s.fbe.off := Nat.zero_lt_of_lt hofflo.1
  have hofflt := fbe_off_lt h hfbe
  have hscale := (fbe_scale_le h hfbe).trans hgain
  obtain ⟨-, -, -, -, -, -, -, -, -, -, -, -, -, -, -, hmax, -⟩ := id h.legal
  have hresponse := impulseResponse_bounds (u := s.fbe) hscale (by omega) ha
  have hempty : ∀ o, history s o = 0 := fun o => congrArg BitVec.toInt (hzero _)
  induction m with
  | zero =>
    obtain ⟨t, ht, hinv, hcfg, hunit, hinit, hanswer, hhistory⟩ := echoTick_history h hfbe hshb ha
    have hy : echoOutput s a = impulseResponse s.fbe a.toInt 0 := by
      have hlow := impulseResponse_zero (u := s.fbe) (a := a.toInt)
      rw [echoOutput, hempty, Int.mul_zero, Int.add_zero, ← hlow]
      exact clip_of_bounds (hresponse 0)
    rw [hy] at hanswer hhistory
    refine ⟨t, (echoRun_snoc (xs := []) rfl).trans ht, hinv, hcfg, hunit, hinit, hanswer, fun o ho => ?_⟩
    rw [hhistory o ho, hempty]
    refine if_ctx_congr Nat.le_zero.symm (fun hle => ?_) fun _ => rfl
    rw [Nat.le_zero.1 hle]
  | succ m ih =>
    obtain ⟨t, ht, hinv, hcfg, hunit, hinit, -, hhistory⟩ := ih
    obtain ⟨r, hr, hinv', hcfg', hunit', hinit', hanswer, hhistory'⟩ :=
      echoTick_history hinv (by rw [hunit]; exact hfbe) hinit (x := 0) ⟨by decide, by decide⟩
    have hy : echoOutput t 0 = impulseResponse s.fbe a.toInt (m + 1) := by
      have hstep := impulseResponse_succ (a := a.toInt) hoff m
      have hx : (0 : Word32).toInt = 0 := rfl
      rw [echoOutput, hunit, hx, Int.mul_zero, Int.zero_add, hhistory _ (by omega), ← hstep]
      exact clip_of_bounds (hresponse _)
    rw [hy] at hanswer hhistory'
    refine ⟨r, ?_, hinv', hcfg'.trans hcfg, hunit'.trans hunit, hinit', hanswer, fun o ho => ?_⟩
    · rw [List.replicate_succ', ← List.cons_append, echoRun_snoc ht]
      exact hr
    · rw [hhistory' o (hcfg ▸ ho)]
      rcases o with _ | o
      · rw [if_pos rfl, if_pos (Nat.zero_le _), Nat.sub_zero]
      · rw [if_neg (Nat.succ_ne_zero o), Nat.add_sub_cancel, hhistory o (by omega), Nat.add_sub_add_right]
        exact if_congr Nat.succ_le_succ_iff.symm rfl rfl

/-- Settles O44. -/
theorem feedbackEchoImpulseResponse : Obligations.FeedbackEchoImpulseResponse := by
  intro s a m h hfbe hshb hzero ha
  obtain ⟨t, ht, -, -, -, -, hanswer, -⟩ := echoRun_impulse h hfbe hshb hzero ha m
  exact ⟨t, ht, hanswer⟩

end Sys2Proof.Laws
end

section
/-! A cleared reverberator with no input stays cleared (R135). -/

namespace Sys2Proof.Laws

open Sys2Proof.Machine Sys2Proof.Claims

/-- A canonical memory that reads 0 everywhere lists no cell. -/
theorem eq_nil_of_read_eq_zero {m : Memory} (hm : Memory.wf m = true) (h : ∀ a, Memory.read m a = 0) : m = [] :=
  ext_of_read hm wf_nil fun a => (h a).trans (read_nil a).symm

/-- What RevCleared says of the three registers. -/
theorem eq_of_cleared {u : Rev} (h : RevCleared u) : u.rb = Quad.all [] ∧ u.z = Quad.all 0 ∧ u.tcz = 0 := by
  obtain ⟨hread, hwf, hz, htcz⟩ := h
  exact ⟨at4_ext fun k => (eq_nil_of_read_eq_zero (hwf k) (hread k)).trans (at4_all _ k).symm,
    at4_ext fun k => (hz k).trans (at4_all _ k).symm, htcz⟩

section
variable {u : Rev} (h : RevCleared u) (cfg : Config)
include h

theorem revTaps_of_cleared : revTaps cfg u = Quad.all 0 := by
  obtain ⟨hrb, -, -⟩ := eq_of_cleared h
  refine at4_ext fun k => ?_
  rw [revTaps, at4_zip, hrb, at4_all, at4_all, read_nil]
  rfl

theorem revDamp_of_cleared : revDamp u (Quad.all 0) = Quad.all 0 := by
  obtain ⟨-, hz, -⟩ := eq_of_cleared h
  refine at4_ext fun k => ?_
  rw [at4_revDamp, hz, at4_all, Int.mul_zero, Int.mul_zero]
  rfl

/-- A silent tick moves the cursor only. -/
theorem revTick_of_cleared (hcur : u.rcur < cfg.lineLen) :
    revTick cfg u 0 = { u with rcur := (u.rcur + 1) % cfg.lineLen } := by
  obtain ⟨hrb, hz, htcz⟩ := eq_of_cleared h
  have hmix : revMix (Quad.all 0) = Quad.all 0 := rfl
  have hdamp := revDamp_of_cleared h
  have hlines : (revTick cfg u 0).rb = u.rb := at4_ext fun k => by
    rw [at4_revTick_rb, revTaps_of_cleared h, hmix, hdamp, hrb, at4_all, at4_all]
    exact if_pos rfl
  have htone : revTone cfg u.tcz (quadSum (Quad.all 0)) = u.tcz := by
    have hsum : quadSum (Quad.all 0) = 0 := rfl
    rw [revTone_eq, htcz, hsum, Int.zero_mul, Int.sub_zero, Int.mul_zero]
    rfl
  rw [revTick_eq hcur, hlines, revTaps_of_cleared h, hmix, hdamp, htone, ← hz]

/-- A silent tick is answered with 0. -/
theorem revOutput_of_cleared (gain : Nat) :
    revOutput cfg gain (quadSum (Quad.all 0)) (revTone cfg u.tcz (quadSum (Quad.all 0))) = 0 := by
  obtain ⟨-, -, htcz⟩ := eq_of_cleared h
  have hsum : quadSum (Quad.all 0) = 0 := rfl
  rw [revOutput_eq, revTone_eq, htcz, hsum, Int.zero_mul, Int.sub_zero, Int.mul_zero, Int.zero_tdiv, Int.add_zero,
    Int.zero_tdiv, Int.mul_zero, Int.zero_tdiv, Int.sub_zero, Int.mul_zero, Int.zero_tdiv]
  rfl

end

theorem exec_revProc_of_cleared {s : State} (h : s.Inv) (hinit : s.rev.inited = true) (hclear : RevCleared s.rev) :
    exec (.revProc 0) s =
      .next (replied 0 { s with rev := { s.rev with rcur := (s.rev.rcur + 1) % (s.cfg.n / 4) } }) := by
  have hzero : (0 : Word32).toInt = 0 := rfl
  rw [exec_revProc hinit ⟨by decide, by decide⟩ h.rcursor (line_delay_lt_lineLen h.legal), revTaps_of_cleared hclear,
    revOutput_of_cleared hclear, hzero, revTick_of_cleared hclear s.cfg h.rcursor]
  rfl

/-- Settles O53, by induction on the number of ticks. -/
theorem reverbSilenceStays : Obligations.ReverbSilenceStays := by
  intro s k h hinit hclear
  induction k generalizing s with
  | zero =>
    have hcur : (s.rev.rcur + 0) % (s.cfg.n / 4) = s.rev.rcur := Nat.mod_eq_of_lt h.rcursor
    rw [hcur]
    rfl
  | succ k ih =>
    have hexec := exec_revProc_of_cleared h hinit hclear
    rw [List.replicate_succ, execAll_cons hexec, ih _ (inv_exec h hexec) hinit hclear]
    have hcur : ((s.rev.rcur + 1) % (s.cfg.n / 4) + k) % (s.cfg.n / 4) = (s.rev.rcur + (k + 1)) % (s.cfg.n / 4) := by
      rw [Nat.mod_add_mod, Nat.add_assoc, Nat.add_comm 1]
    have hresponses : List.replicate k (word 0 0) ++ word 0 0 :: s.responses =
        List.replicate (k + 1) (word 0 0) ++ s.responses := by
      rw [List.replicate_succ', List.append_assoc, List.singleton_append]
    rw [← hcur, ← hresponses]
    rfl

end Sys2Proof.Laws
end

section
/-! SET (R18, R25, R54, R63): its operand is clamped, its own parameter changes nothing, and the SETs of one unit commute or
override one another. -/

namespace Sys2Proof.Laws

open Sys2Proof.Machine Sys2Proof.Claims

/-! Clamped operands. -/

theorem toInt_clampedWord {v : Word32} {lo hi : Nat} (hlo : lo < 2 ^ 31) :
    (clampedWord v lo hi).toInt = max (lo : Int) (min (hi : Int) v.toInt) := by
  have hmin := BitVec.le_toInt v
  have hmax := BitVec.toInt_lt (x := v)
  rw [clampedWord, BitVec.toInt_ofInt, Int.bmod_eq_of_le] <;> omega

/-- Clamping twice is clamping once. -/
theorem clamped_clampedWord {lo hi : Nat} (hlo : lo < 2 ^ 31) (v : Word32) :
    clamped (clampedWord v lo hi) lo hi = clamped v lo hi := by
  rw [clamped, toInt_clampedWord hlo, clamped]
  omega

/-- A value in range is not changed by the clamping of its word. -/
theorem clamped_ofNat {a lo hi : Nat} (hlo : lo ≤ a) (hhi : a ≤ hi) (hsize : a < 2 ^ 31) :
    clamped (BitVec.ofNat 32 a) lo hi = a := by
  have ha : (BitVec.ofNat 32 a).toInt = a := by
    rw [← BitVec.ofInt_natCast, BitVec.toInt_ofInt, Int.bmod_eq_of_le] <;> omega
  rw [clamped, ha]
  omega

/-- The range of parameter number `k` (R54). -/
def grainRange (gc : GrainConfig) : Nat → Nat × Nat
  | 0 => (gc.shiftMin, gc.shiftMax)
  | _ => (0, 32768)

def fbeRange (cfg : Config) : Nat → Nat × Nat
  | 0 => (0, cfg.msMax)
  | 1 => (0, cfg.decayFbMax)
  | 2 => (0, 32768)
  | _ => (10, cfg.n - 1)

def ffeRange (cfg : Config) : Nat → Nat × Nat
  | 0 => (0, cfg.msMax)
  | 1 => (1, 8)
  | 2 => (0, 32768)
  | 3 => (0, 32768)
  | _ => (10, cfg.n - 1)

def revRange (cfg : Config) : Nat → Nat × Nat
  | 0 => (0, cfg.rtMax)
  | _ => (0, 32768)

/-- The range of parameter number `k` of the unit. -/
def EffectUnit.range (cfg : Config) (k : Nat) : EffectUnit → Nat × Nat :=
  pick (fun g => grainRange (cfg.grain g) k) (fbeRange cfg k) (ffeRange cfg k) (revRange cfg k)

/-- The operand `v` of SET clamped into the range of its parameter. -/
def EffectUnit.clampedOperand (cfg : Config) (v : Word32) (k : Nat) (e : EffectUnit) : Word32 :=
  clampedWord v (e.range cfg k).1 (e.range cfg k).2

/-! A store reads its operand clamped. -/

section
variable {v w : Word32} {k : Nat}

theorem grainStore_congr {gc : GrainConfig} (u : Grain)
    (h : clamped w (grainRange gc k).1 (grainRange gc k).2 = clamped v (grainRange gc k).1 (grainRange gc k).2) :
    grainStore gc w u k = grainStore gc v u k := by
  match k with
  | 0 => exact congrArg (fun c => { u with shift := c }) h
  | 1 => exact congrArg (fun c => { u with mix := c }) h
  | _ + 2 => exact congrArg (fun c => { u with gain := c }) h

theorem fbeStore_congr {cfg : Config} (u : Fbe)
    (h : clamped w (fbeRange cfg k).1 (fbeRange cfg k).2 = clamped v (fbeRange cfg k).1 (fbeRange cfg k).2) :
    fbeStore cfg w u k = fbeStore cfg v u k := by
  match k with
  | 0 => exact congrArg (fun c => { u with ms := c, off := tapFor cfg u.fs c }) h
  | 1 => exact congrArg (fun c => { u with decay := c }) h
  | 2 => exact congrArg (fun c => { u with gain := c }) h
  | _ + 3 => exact congrArg (fun c => { u with off := c, ms := msOfTap cfg u.fs c }) h

theorem ffeStore_congr {cfg : Config} (u : Ffe)
    (h : clamped w (ffeRange cfg k).1 (ffeRange cfg k).2 = clamped v (ffeRange cfg k).1 (ffeRange cfg k).2) :
    ffeStore cfg w u k = ffeStore cfg v u k := by
  match k with
  | 0 => exact congrArg (fun c => { u with ms := c, off := tapFor cfg u.fs c }) h
  | 1 => exact congrArg (fun c => { u with repeats := c }) h
  | 2 => exact congrArg (fun c => { u with decay := c }) h
  | 3 => exact congrArg (fun c => { u with gain := c }) h
  | _ + 4 => exact congrArg (fun c => { u with off := c, ms := msOfTap cfg u.fs c }) h

theorem revStore_congr {cfg : Config} (u : Rev)
    (h : clamped w (revRange cfg k).1 (revRange cfg k).2 = clamped v (revRange cfg k).1 (revRange cfg k).2) :
    revStore cfg w u k = revStore cfg v u k := by
  match k with
  | 0 => exact congrArg (fun c => { u with time := c }) h
  | _ + 1 => exact congrArg (fun c => { u with gain := c }) h

theorem exec_set_congr {e : EffectUnit} (s : State) (h : clamped w (e.range s.cfg k).1 (e.range s.cfg k).2 =
    clamped v (e.range s.cfg k).1 (e.range s.cfg k).2) : exec (e.set w k) s = exec (e.set v k) s := by
  suffices hboth : e.divisorOk w k s = e.divisorOk v k s ∧ e.stored w k s = e.stored v k s by
    rw [exec_set, exec_set, hboth.1, hboth.2]
  have hgrain : ∀ (g : GrainId) x, (EffectUnit.grain g).divisorOk x k s = true := fun _ _ => rfl
  have hfbe : ∀ x, EffectUnit.fbe.divisorOk x k s = (k < 3 || s.fbe.fs ≠ 0) := fun _ => rfl
  have hffe : ∀ x, EffectUnit.ffe.divisorOk x k s = (k < 4 || s.ffe.fs ≠ 0) := fun _ => rfl
  rcases e with g | _ | _ | _
  · exact ⟨(hgrain g w).trans (hgrain g v).symm, congrArg (fun u => s.setGrain g (grainRecompute (s.cfg.grain g) u))
      (grainStore_congr (s.grain g) h)⟩
  · exact ⟨(hfbe w).trans (hfbe v).symm, congrArg (fun u => { s with fbe := fbeRecompute s.cfg u })
      (fbeStore_congr s.fbe h)⟩
  · exact ⟨(hffe w).trans (hffe v).symm, congrArg (fun u => { s with ffe := ffeRecompute u })
      (ffeStore_congr s.ffe h)⟩
  · have hstore := revStore_congr s.rev h
    exact ⟨congrArg (revDivisorOk s.cfg) hstore,
      congrArg (fun u => { s with rev := revClear (revRecompute s.cfg u) }) hstore⟩

end

/-- The lower ends are small. -/
theorem range_lo_le {cfg : Config} (h : cfg.Legal) (e : EffectUnit) (k : Nat) : (e.range cfg k).1 ≤ 1200 := by
  rcases e with g | _ | _ | _
  · obtain ⟨-, -, -, -, hmin, hmax, -⟩ := grainConfig_legal h g
    match k with
    | 0 => exact hmin.trans hmax
    | _ + 1 => exact Nat.zero_le 1200
  · match k with
    | 0 | 1 | 2 => exact Nat.zero_le 1200
    | _ + 3 => exact Nat.le_add_right 10 1190
  · match k with
    | 0 | 2 | 3 => exact Nat.zero_le 1200
    | 1 => exact Nat.le_add_right 1 1199
    | _ + 4 => exact Nat.le_add_right 10 1190
  · match k with
    | 0 | _ + 1 => exact Nat.zero_le 1200

theorem exec_set_clampedOperand {s : State} (h : s.cfg.Legal) (e : EffectUnit) (v : Word32) (k : Nat) :
    exec (e.set v k) s = exec (e.set (e.clampedOperand s.cfg v k) k) s :=
  (exec_set_congr s (clamped_clampedWord ((range_lo_le h e k).trans_lt (by omega)) v)).symm

/-- Settles O23, SET by SET. -/
theorem settersClampTheirOperand : Obligations.SettersClampTheirOperand := fun _ v h =>
  have hset := fun e k => exec_set_clampedOperand h e v k
  ⟨fun g => ⟨hset (.grain g) 0, hset (.grain g) 1, hset (.grain g) 2⟩,
    hset .fbe 0, hset .fbe 1, hset .fbe 2, hset .fbe 3,
    hset .ffe 0, hset .ffe 1, hset .ffe 2, hset .ffe 3, hset .ffe 4,
    hset .rev 0, hset .rev 1⟩

/-! A unit's own parameters. -/

theorem stored_replied (e : EffectUnit) (v w : Word32) (k : Nat) (s : State) :
    e.stored v k (replied w s) = replied w (e.stored v k s) := by
  rcases e with (_ | _ | _) | _ | _ | _ <;> rfl

theorem isInited_replied (e : EffectUnit) (w : Word32) (s : State) : e.isInited (replied w s) = e.isInited s := by
  rcases e with (_ | _ | _) | _ | _ | _ <;> rfl

theorem inv_replied {s : State} (h : s.Inv) (w : Word32) : (replied w s).Inv :=
  inv_of_reply h h.status s.pending (word 0 w :: s.responses)

theorem inv_faulted {s : State} (h : s.Inv) : (faulted 5 s).Inv :=
  inv_of_reply h (reserved_of_gainsBits h.status (gainsBits_faulted .eNoInit s)) s.pending (word 5 0 :: s.responses)

/-- SETs that store what the unit holds only answer. -/
theorem execAll_set_own (e : EffectUnit) (params : List (Word32 × Nat)) {s : State} (h : s.Inv)
    (hinit : e.isInited s = true) (hown : ∀ p ∈ params, e.stored p.1 p.2 s = s) :
    execAll (params.map fun p => e.set p.1 p.2) s = .next ((replied 0)^[params.length] s) := by
  induction params generalizing s with
  | nil => rfl
  | cons p params ih =>
    obtain ⟨hp, hrest⟩ := List.forall_mem_cons.1 hown
    have hexec := exec_set_of_inv h e p.1 p.2
    rw [if_pos hinit, hp] at hexec
    rw [List.map_cons, execAll_cons hexec]
    refine ih (inv_replied h 0) ((isInited_replied e 0 s).trans hinit) fun q hq => ?_
    rw [stored_replied, hrest q hq]

section
variable {s : State} (h : s.Inv)
include h

theorem stored_grain_own {g : GrainId} (hinit : (s.grain g).inited = true) {v : Word32} {k : Nat}
    (hstore : grainStore (s.cfg.grain g) v (s.grain g) k = s.grain g) :
    (EffectUnit.grain g).stored v k s = s := by
  change s.setGrain g (grainRecompute (s.cfg.grain g) (grainStore (s.cfg.grain g) v (s.grain g) k)) = s
  rw [hstore, (h.grain g hinit).derived, setGrain_grain_self]

theorem stored_fbe_own (hinit : s.fbe.inited = true) {v : Word32} {k : Nat} (hstore : fbeStore s.cfg v s.fbe k = s.fbe) :
    EffectUnit.fbe.stored v k s = s := by
  change { s with fbe := fbeRecompute s.cfg (fbeStore s.cfg v s.fbe k) } = s
  rw [hstore, (h.fbe hinit).derived]

theorem stored_ffe_own (hinit : s.ffe.inited = true) {v : Word32} {k : Nat} (hstore : ffeStore s.cfg v s.ffe k = s.ffe) :
    EffectUnit.ffe.stored v k s = s := by
  change { s with ffe := ffeRecompute (ffeStore s.cfg v s.ffe k) } = s
  rw [hstore, (h.ffe hinit).derived]

/-- Importing the parameters of a grain unit. -/
theorem grainSetParams_own {g : GrainId} (hinit : (s.grain g).inited = true) :
    execPseudo (.grainSetParams g (BitVec.ofNat 32 (s.grain g).shift) (BitVec.ofNat 32 (s.grain g).mix)
      (BitVec.ofNat 32 (s.grain g).gain)) s = .next (replied 0 (replied 0 (replied 0 s))) := by
  obtain ⟨-, hshift, hmix, hgain, -, -⟩ := h.grain g hinit
  obtain ⟨-, -, -, -, -, hmax, -⟩ := grainConfig_legal h.legal g
  have hown : ∀ p ∈ [(BitVec.ofNat 32 (s.grain g).shift, 0), (BitVec.ofNat 32 (s.grain g).mix, 1),
      (BitVec.ofNat 32 (s.grain g).gain, 2)], (EffectUnit.grain g).stored p.1 p.2 s = s := by
    simp only [List.forall_mem_cons]
    exact ⟨stored_grain_own h hinit (congrArg (fun c => { s.grain g with shift := c })
        (clamped_ofNat hshift.1 hshift.2 (by omega))),
      stored_grain_own h hinit (congrArg (fun c => { s.grain g with mix := c })
        (clamped_ofNat (Nat.zero_le _) hmix (by omega))),
      stored_grain_own h hinit (congrArg (fun c => { s.grain g with gain := c })
        (clamped_ofNat (Nat.zero_le _) hgain (by omega))), nofun⟩
  exact execAll_set_own (.grain g) _ h hinit hown

theorem fbeSetParams_own (hms : s.cfg.msMax < 2 ^ 31) (hinit : s.fbe.inited = true)
    (hoff : s.fbe.off = tapFor s.cfg s.fbe.fs s.fbe.ms) :
    execPseudo (.fbeSetParams (BitVec.ofNat 32 s.fbe.ms) (BitVec.ofNat 32 s.fbe.decay) (BitVec.ofNat 32 s.fbe.gain)) s =
      .next (replied 0 (replied 0 (replied 0 s))) := by
  obtain ⟨-, hmsmax, -, hdecay, hgain, -⟩ := h.fbe hinit
  obtain ⟨-, -, -, -, -, -, -, -, -, -, -, -, -, -, -, hmax, -⟩ := id h.legal
  have htap : fbeStore s.cfg (BitVec.ofNat 32 s.fbe.ms) s.fbe 0 = s.fbe := by
    have hclamp := clamped_ofNat (Nat.zero_le _) hmsmax (by omega)
    exact congrArg₂ (fun ms off => { s.fbe with ms := ms, off := off }) hclamp
      ((congrArg (tapFor s.cfg s.fbe.fs) hclamp).trans hoff.symm)
  have hown : ∀ p ∈ [(BitVec.ofNat 32 s.fbe.ms, 0), (BitVec.ofNat 32 s.fbe.decay, 1), (BitVec.ofNat 32 s.fbe.gain, 2)],
      EffectUnit.fbe.stored p.1 p.2 s = s := by
    simp only [List.forall_mem_cons]
    exact ⟨stored_fbe_own h hinit htap,
      stored_fbe_own h hinit (congrArg (fun c => { s.fbe with decay := c })
        (clamped_ofNat (Nat.zero_le _) hdecay (by omega))),
      stored_fbe_own h hinit (congrArg (fun c => { s.fbe with gain := c })
        (clamped_ofNat (Nat.zero_le _) hgain (by omega))), nofun⟩
  exact execAll_set_own .fbe _ h hinit hown

theorem ffeSetParams_own (hms : s.cfg.msMax < 2 ^ 31) (hinit : s.ffe.inited = true)
    (hoff : s.ffe.off = tapFor s.cfg s.ffe.fs s.ffe.ms) :
    execPseudo (.ffeSetParams (BitVec.ofNat 32 s.ffe.ms) (BitVec.ofNat 32 s.ffe.repeats) (BitVec.ofNat 32 s.ffe.decay)
      (BitVec.ofNat 32 s.ffe.gain)) s = .next (replied 0 (replied 0 (replied 0 (replied 0 s)))) := by
  obtain ⟨-, hmsmax, -, hrepeats, hdecay, hgain, -⟩ := h.ffe hinit
  have htap : ffeStore s.cfg (BitVec.ofNat 32 s.ffe.ms) s.ffe 0 = s.ffe := by
    have hclamp := clamped_ofNat (Nat.zero_le _) hmsmax (by omega)
    exact congrArg₂ (fun ms off => { s.ffe with ms := ms, off := off }) hclamp
      ((congrArg (tapFor s.cfg s.ffe.fs) hclamp).trans hoff.symm)
  have hown : ∀ p ∈ [(BitVec.ofNat 32 s.ffe.ms, 0), (BitVec.ofNat 32 s.ffe.repeats, 1), (BitVec.ofNat 32 s.ffe.decay, 2),
      (BitVec.ofNat 32 s.ffe.gain, 3)], EffectUnit.ffe.stored p.1 p.2 s = s := by
    simp only [List.forall_mem_cons]
    exact ⟨stored_ffe_own h hinit htap,
      stored_ffe_own h hinit (congrArg (fun c => { s.ffe with repeats := c })
        (clamped_ofNat hrepeats.1 hrepeats.2 (by omega))),
      stored_ffe_own h hinit (congrArg (fun c => { s.ffe with decay := c })
        (clamped_ofNat (Nat.zero_le _) hdecay (by omega))),
      stored_ffe_own h hinit (congrArg (fun c => { s.ffe with gain := c })
        (clamped_ofNat (Nat.zero_le _) hgain (by omega))), nofun⟩
  exact execAll_set_own .ffe _ h hinit hown

end

/-- Settles O24. -/
theorem reimportingParametersKeepsTheUnit : Obligations.ReimportingParametersKeepsTheUnit := fun _ h hms =>
  ⟨fun _ => grainSetParams_own h, fbeSetParams_own h hms, ffeSetParams_own h hms⟩

/-! Two SETs of one unit. -/

/-- The selector of SET number `k` (R54). -/
def grainSelector : Nat → Nat
  | 0 => 0
  | 1 => 1
  | _ => 2

def fbeSelector : Nat → Nat
  | 0 => 0
  | 1 => 1
  | 2 => 2
  | _ => 3

def ffeSelector : Nat → Nat
  | 0 => 0
  | 1 => 1
  | 2 => 2
  | 3 => 3
  | _ => 4

def revSelector : Nat → Nat
  | 0 => 0
  | _ => 1

/-- The parameter that SET number `k` sets: the last SET of an echo unit sets the tap, as SET number 0 does (R54). -/
def fbeParam : Nat → Nat
  | 1 => 1
  | 2 => 2
  | _ => 0

def ffeParam : Nat → Nat
  | 1 => 1
  | 2 => 2
  | 3 => 3
  | _ => 0

namespace EffectUnit

def selector (k : Nat) : EffectUnit → Nat :=
  pick (fun _ => grainSelector k) (fbeSelector k) (ffeSelector k) (revSelector k)

def param (k : Nat) : EffectUnit → Nat :=
  pick (fun _ => grainSelector k) (fbeParam k) (ffeParam k) (revSelector k)

end EffectUnit

section
variable (e : EffectUnit) (v : Word32) (k : Nat)

theorem selOf_set : selOf (encode (e.set v k)) = e.selector k := by
  rcases e with (_ | _ | _) | _ | _ | _ <;> rcases k with _ | _ | _ | _ | k <;> exact selOf_packWord ..

theorem setParameter_of_op {i : Instr} (hop : opOf (encode i) = 2) : setParameter i =
    some (unitNumber i.unit, if (unitNumber i.unit = 5 ∧ selOf (encode i) = 3) ∨
      (unitNumber i.unit = 6 ∧ selOf (encode i) = 4) then 0 else selOf (encode i)) := by
  rw [← unitOf_encode]
  exact if_pos hop

theorem setParameter_set : setParameter (e.set v k) = some (unitNumber e.unit, e.param k) := by
  rw [setParameter_of_op (opOf_set e v k), selOf_set, unit_set]
  rcases e with (_ | _ | _) | _ | _ | _ <;> rcases k with _ | _ | _ | _ | k <;> rfl

theorem setParameter_of_op_ne {i : Instr} (hop : opOf (encode i) ≠ 2) : setParameter i = none := if_neg hop

/-- The commands that set a parameter are the SETs. -/
theorem eq_set_of_setParameter {i : Instr} {p : Nat × Nat} (h : setParameter i = some p) :
    ∃ (e : EffectUnit) (v : Word32) (k : Nat), i = e.set v k ∧ p = (unitNumber e.unit, e.param k) := by
  cases i using instr_cases with
  | set e v k => exact ⟨e, v, k, rfl, (Option.some.inj ((setParameter_set e v k).symm.trans h)).symm⟩
  | _ =>
    rw [setParameter_of_op_ne (by simp)] at h
    cases h

theorem effectUnit_unit_injective : Function.Injective EffectUnit.unit := by
  intro e f h
  rcases e with (_ | _ | _) | _ | _ | _ <;> rcases f with (_ | _ | _) | _ | _ | _ <;> first | rfl | cases h

/-! A store reads no derived register, so the recompute step between two stores does not matter. -/

theorem grainStore_grainRecompute (gc : GrainConfig) (u : Grain) :
    grainRecompute gc (grainStore gc v (grainRecompute gc u) k) = grainRecompute gc (grainStore gc v u k) := by
  rcases k with _ | _ | k <;> rfl

theorem fbeStore_fbeRecompute (cfg : Config) (u : Fbe) :
    fbeRecompute cfg (fbeStore cfg v (fbeRecompute cfg u) k) = fbeRecompute cfg (fbeStore cfg v u k) := by
  rcases k with _ | _ | _ | k <;> rfl

theorem ffeStore_ffeRecompute (cfg : Config) (u : Ffe) :
    ffeRecompute (ffeStore cfg v (ffeRecompute u) k) = ffeRecompute (ffeStore cfg v u k) := by
  rcases k with _ | _ | _ | _ | k <;> rfl

theorem revStore_revRecompute (cfg : Config) (u : Rev) :
    revClear (revRecompute cfg (revStore cfg v (revClear (revRecompute cfg u)) k)) =
      revClear (revRecompute cfg (revStore cfg v u k)) := by
  rcases k with _ | k <;> rfl

end

/-! Stores of different parameters write different registers; the later of two stores of one parameter wins. -/

section
variable (v w : Word32) {k l : Nat}

theorem grainStore_comm {gc : GrainConfig} (u : Grain) (h : grainSelector k ≠ grainSelector l) :
    grainStore gc w (grainStore gc v u k) l = grainStore gc v (grainStore gc w u l) k := by
  rcases k with _ | _ | k <;> rcases l with _ | _ | l <;> first | exact absurd rfl h | rfl

theorem fbeStore_comm {cfg : Config} (u : Fbe) (h : fbeParam k ≠ fbeParam l) :
    fbeStore cfg w (fbeStore cfg v u k) l = fbeStore cfg v (fbeStore cfg w u l) k := by
  rcases k with _ | _ | _ | k <;> rcases l with _ | _ | _ | l <;> first | exact absurd rfl h | rfl

theorem ffeStore_comm {cfg : Config} (u : Ffe) (h : ffeParam k ≠ ffeParam l) :
    ffeStore cfg w (ffeStore cfg v u k) l = ffeStore cfg v (ffeStore cfg w u l) k := by
  rcases k with _ | _ | _ | _ | k <;> rcases l with _ | _ | _ | _ | l <;> first | exact absurd rfl h | rfl

theorem revStore_comm {cfg : Config} (u : Rev) (h : revSelector k ≠ revSelector l) :
    revStore cfg w (revStore cfg v u k) l = revStore cfg v (revStore cfg w u l) k := by
  rcases k with _ | k <;> rcases l with _ | l <;> first | exact absurd rfl h | rfl

theorem grainStore_last {gc : GrainConfig} (u : Grain) (h : grainSelector k = grainSelector l) :
    grainStore gc w (grainStore gc v u k) l = grainStore gc w u l := by
  rcases k with _ | _ | k <;> rcases l with _ | _ | l <;> first | (cases h; done) | rfl

theorem fbeStore_last {cfg : Config} (u : Fbe) (h : fbeParam k = fbeParam l) :
    fbeStore cfg w (fbeStore cfg v u k) l = fbeStore cfg w u l := by
  rcases k with _ | _ | _ | k <;> rcases l with _ | _ | _ | l <;> first | (cases h; done) | rfl

theorem ffeStore_last {cfg : Config} (u : Ffe) (h : ffeParam k = ffeParam l) :
    ffeStore cfg w (ffeStore cfg v u k) l = ffeStore cfg w u l := by
  rcases k with _ | _ | _ | _ | k <;> rcases l with _ | _ | _ | _ | l <;> first | (cases h; done) | rfl

theorem revStore_last {cfg : Config} (u : Rev) (h : revSelector k = revSelector l) :
    revStore cfg w (revStore cfg v u k) l = revStore cfg w u l := by
  rcases k with _ | k <;> rcases l with _ | l <;> first | (cases h; done) | rfl

end

section
variable (e : EffectUnit) (v w : Word32) {k l : Nat} (s : State)

theorem isInited_stored : e.isInited (e.stored v k s) = e.isInited s := by
  rcases e with g | _ | _ | _
  · have hsame : (grainRecompute (s.cfg.grain g) (grainStore (s.cfg.grain g) v (s.grain g) k)).inited =
        (s.grain g).inited := by rcases k with _ | _ | k <;> rfl
    exact (congrArg Grain.inited (setGrain_grain_same ..)).trans hsame
  · rcases k with _ | _ | _ | k <;> rfl
  · rcases k with _ | _ | _ | _ | k <;> rfl
  · rcases k with _ | k <;> rfl

/-- Two stores of a grain unit and one recompute step. -/
theorem stored_stored_grain (g : GrainId) : (EffectUnit.grain g).stored w l ((EffectUnit.grain g).stored v k s) =
    s.setGrain g (grainRecompute (s.cfg.grain g) (grainStore (s.cfg.grain g) w (grainStore (s.cfg.grain g) v (s.grain g) k) l)) := by
  change (s.setGrain g _).setGrain g (grainRecompute ((s.setGrain g _).cfg.grain g)
    (grainStore ((s.setGrain g _).cfg.grain g) w ((s.setGrain g _).grain g) l)) = _
  rw [setGrain_setGrain, setGrain_cfg, setGrain_grain_same, grainStore_grainRecompute]

theorem stored_comm (h : e.param k ≠ e.param l) :
    e.stored w l (e.stored v k s) = e.stored v k (e.stored w l s) := by
  rcases e with g | _ | _ | _
  · rw [stored_stored_grain, stored_stored_grain, grainStore_comm v w _ h]
  · refine congrArg (fun u : Fbe => { s with fbe := u }) ?_
    exact (fbeStore_fbeRecompute ..).trans
      ((congrArg (fbeRecompute s.cfg) (fbeStore_comm v w s.fbe h)).trans (fbeStore_fbeRecompute ..).symm)
  · refine congrArg (fun u : Ffe => { s with ffe := u }) ?_
    exact (ffeStore_ffeRecompute ..).trans
      ((congrArg ffeRecompute (ffeStore_comm v w s.ffe h)).trans (ffeStore_ffeRecompute ..).symm)
  · refine congrArg (fun u : Rev => { s with rev := u }) ?_
    exact (revStore_revRecompute ..).trans ((congrArg (fun u => revClear (revRecompute s.cfg u))
      (revStore_comm v w s.rev h)).trans (revStore_revRecompute ..).symm)

theorem stored_last (h : e.param k = e.param l) : e.stored w l (e.stored v k s) = e.stored w l s := by
  rcases e with g | _ | _ | _
  · rw [stored_stored_grain, grainStore_last v w _ h]
    rfl
  · refine congrArg (fun u : Fbe => { s with fbe := u }) ?_
    exact (fbeStore_fbeRecompute ..).trans (congrArg (fbeRecompute s.cfg) (fbeStore_last v w s.fbe h))
  · refine congrArg (fun u : Ffe => { s with ffe := u }) ?_
    exact (ffeStore_ffeRecompute ..).trans (congrArg ffeRecompute (ffeStore_last v w s.ffe h))
  · refine congrArg (fun u : Rev => { s with rev := u }) ?_
    exact (revStore_revRecompute ..).trans
      (congrArg (fun u => revClear (revRecompute s.cfg u)) (revStore_last v w s.rev h))

end

section
variable {s : State} (h : s.Inv) (e : EffectUnit) (v w : Word32) (k l : Nat)
include h

theorem execAll_set_set (hinit : e.isInited s = true) :
    execAll [e.set v k, e.set w l] s = .next (replied 0 (replied 0 (e.stored w l (e.stored v k s)))) := by
  have hfirst := exec_set_of_inv h e v k
  rw [if_pos hinit] at hfirst
  have hsecond := exec_set_of_inv (inv_replied (inv_stored h e v k hinit) 0) e w l
  rw [isInited_replied, isInited_stored, if_pos hinit, stored_replied] at hsecond
  rw [execAll_cons hfirst, execAll_cons hsecond]
  rfl

theorem execAll_set_set_of_not_inited (hinit : e.isInited s ≠ true) :
    execAll [e.set v k, e.set w l] s = .next (faulted 5 (faulted 5 s)) := by
  have hsame : e.isInited (faulted 5 s) = e.isInited s := by rcases e with (_ | _ | _) | _ | _ | _ <;> rfl
  have hfirst := exec_set_of_inv h e v k
  rw [if_neg hinit] at hfirst
  have hsecond := exec_set_of_inv (inv_faulted h) e w l
  rw [hsame, if_neg hinit] at hsecond
  rw [execAll_cons hfirst, execAll_cons hsecond]
  rfl

/-- SETs of different parameters of one unit commute (R25). -/
theorem execAll_set_comm (hne : e.param k ≠ e.param l) :
    execAll [e.set v k, e.set w l] s = execAll [e.set w l, e.set v k] s := by
  by_cases hinit : e.isInited s = true
  · rw [execAll_set_set h e v w k l hinit, execAll_set_set h e w v l k hinit, stored_comm e v w s hne]
  · rw [execAll_set_set_of_not_inited h e v w k l hinit, execAll_set_set_of_not_inited h e w v l k hinit]

/-- Of two SETs of one parameter the last one counts (R63). -/
theorem execAll_set_last (heq : e.param k = e.param l) {t t' : State}
    (ht : execAll [e.set v k, e.set w l] s = .next t) (ht' : exec (e.set w l) s = .next t') :
    { t with responses := [] } = { t' with responses := [] } := by
  rw [exec_set_of_inv h] at ht'
  by_cases hinit : e.isInited s = true
  · rw [if_pos hinit] at ht'
    rw [execAll_set_set h e v w k l hinit, stored_last e v w s heq] at ht
    cases ht
    cases ht'
    rfl
  · rw [if_neg hinit] at ht'
    rw [execAll_set_set_of_not_inited h e v w k l hinit] at ht
    cases ht
    cases ht'
    refine congrArg (fun st => { s with status := st, responses := [] }) ?_
    change s.status ||| BitVec.ofNat 32 (2 ^ 5) ||| BitVec.ofNat 32 (2 ^ 5) = s.status ||| BitVec.ofNat 32 (2 ^ 5)
    rw [BitVec.or_assoc, BitVec.or_self]

end

/-- Settles O22: the commands are SETs, and of one unit because their unit numbers agree. -/
theorem orderOfSettersNeverMatters : Obligations.OrderOfSettersNeverMatters := by
  intro i j p q s h hi hj
  obtain ⟨e, v, k, rfl, rfl⟩ := eq_set_of_setParameter hi
  obtain ⟨f, w, l, rfl, rfl⟩ := eq_set_of_setParameter hj
  refine ⟨fun hunit hne => ?_, fun heq t t' ht ht' => ?_⟩
  · obtain rfl := effectUnit_unit_injective (unitNumber_injective hunit)
    exact execAll_set_comm h e v w k l hne
  · obtain ⟨hunit, hparam⟩ := Prod.mk.inj heq
    obtain rfl := effectUnit_unit_injective (unitNumber_injective hunit)
    exact execAll_set_last h e v w k l hparam ht ht'

end Sys2Proof.Laws
end

section
/-! ENABLE is read by PEEK of selector 1 only (R24): every other command but INIT and SWITCH commutes with writing it. -/

namespace Sys2Proof.Laws

open Sys2Proof.Machine Sys2Proof.Claims

/-! The state with other ENABLE bits. -/

section
variable (b : Bool) (s : State) (e : EffectUnit)

theorem grain_withEnable (g : GrainId) : (withEnable b s).grain g = { s.grain g with enable := b } := by
  cases g <;> rfl

theorem withEnable_setGrain (g : GrainId) (u : Grain) :
    (withEnable b s).setGrain g { u with enable := b } = withEnable b (s.setGrain g u) := by
  cases g <;> rfl

theorem isInited_withEnable : e.isInited (withEnable b s) = e.isInited s := by
  rcases e with (_ | _ | _) | _ | _ | _ <;> rfl

theorem params_withEnable : e.params (withEnable b s) = e.params s := by
  rcases e with (_ | _ | _) | _ | _ | _ <;> rfl

theorem registers_withEnable : e.registers (withEnable b s) = (e.registers s).set 1 (bitValue b) := by
  rcases e with (_ | _ | _) | _ | _ | _ <;> rfl

theorem divisorOk_withEnable (v : Word32) (k : Nat) : e.divisorOk v k (withEnable b s) = e.divisorOk v k s := by
  rcases e with g | _ | _ | _
  · rfl
  · rfl
  · rfl
  · rcases k with _ | k <;> rfl

theorem stored_withEnable (v : Word32) (k : Nat) : e.stored v k (withEnable b s) = withEnable b (e.stored v k s) := by
  rcases e with g | _ | _ | _
  · have hunit : grainRecompute (s.cfg.grain g) (grainStore (s.cfg.grain g) v { s.grain g with enable := b } k) =
        { grainRecompute (s.cfg.grain g) (grainStore (s.cfg.grain g) v (s.grain g) k) with enable := b } := by
      rcases k with _ | _ | k <;> rfl
    change (withEnable b s).setGrain g
      (grainRecompute (s.cfg.grain g) (grainStore (s.cfg.grain g) v ((withEnable b s).grain g) k)) = _
    rw [grain_withEnable, hunit]
    exact withEnable_setGrain ..
  · rcases k with _ | _ | _ | k <;> rfl
  · rcases k with _ | _ | _ | _ | k <;> rfl
  · rcases k with _ | k <;> rfl

end

theorem grainStep_of_pos {gc : GrainConfig} {u : Grain} (h : 0 < u.d) : grainStep gc u =
    { u with k1 := u.k1 - 1, k2 := if u.i < gc.blend then u.k2 - 1 else u.k2, d := u.d + u.ad2, i := u.i + 1 } := if_pos h

theorem grainStep_of_not_pos {gc : GrainConfig} {u : Grain} (h : ¬0 < u.d) :
    grainStep gc u = { u with d := u.d + u.ad3, i := u.i + 1 } := if_neg h

/-- A tick does not look at ENABLE. -/
theorem grainAdvance_withEnable (gc : GrainConfig) (u : Grain) (b : Bool) :
    grainAdvance gc { u with enable := b } = { grainAdvance gc u with enable := b } := by
  have hstep : grainStep gc { u with enable := b } = { grainStep gc u with enable := b } := by
    by_cases hd : 0 < u.d
    · rw [grainStep_of_pos hd, grainStep_of_pos (u := { u with enable := b }) hd]
    · rw [grainStep_of_not_pos hd, grainStep_of_not_pos (u := { u with enable := b }) hd]
  by_cases hi : u.i + 1 = gc.cycle
  · rw [grainAdvance_of_last hi, grainAdvance_of_last (u := { u with enable := b }) hi]
    rfl
  · rw [grainAdvance_of_lt hi, grainAdvance_of_lt (u := { u with enable := b }) hi, hstep]

/-! Results that are the same but for the ENABLE bits. -/

/-- The next state of `r` with its ENABLE bits at `b` is the next state of `r'`. -/
def EnableBlind (b : Bool) (r r' : Result) : Prop := ∀ t, r = .next t → r' = .next (withEnable b t)

section
variable {b : Bool} {s : State} {k k' : Result}

theorem enableBlind_fault {f : Fault} : EnableBlind b (.fault f) k' := fun _ h => by cases h

theorem enableBlind_answer {v w : Word32} {s' : State} (hv : v = w) (hs : s' = withEnable b s) :
    EnableBlind b (answer v s) (answer w s') := by
  intro t ht
  subst hv hs
  cases ht
  rfl

theorem enableBlind_takeFault (c : FaultCode) : EnableBlind b (takeFault c s) (takeFault c (withEnable b s)) := by
  intro t ht
  cases ht
  rfl

theorem enableBlind_ite {p : Prop} [Decidable p] {a a' c c' : Result} (ha : EnableBlind b a a')
    (hc : EnableBlind b c c') : EnableBlind b (if p then a else c) (if p then a' else c') := by
  split
  · exact ha
  · exact hc

theorem enableBlind_guarded {c c' : Bool} {s' : State} (hc : c' = c) (hs : s' = withEnable b s) :
    EnableBlind b (guarded c s) (guarded c' s') := by
  subst hc
  cases c'
  · exact enableBlind_fault
  · exact enableBlind_answer rfl hs

theorem enableBlind_whenInited {c c' : Bool} (hc : c' = c) (hk : EnableBlind b k k') :
    EnableBlind b (whenInited c s k) (whenInited c' (withEnable b s) k') := by
  subst hc
  cases c'
  · exact enableBlind_takeFault .eNoInit
  · exact hk

theorem enableBlind_whenOperand {c : Bool} (hk : EnableBlind b k k') :
    EnableBlind b (whenOperand c s k) (whenOperand c (withEnable b s) k') := by
  cases c
  · exact enableBlind_takeFault .eOperand
  · exact hk

theorem enableBlind_readRegister {c c' : Bool} {l l' : List Word32} {sel : BitVec 8} (hc : c' = c)
    (hl : l'[sel.toNat]? = l[sel.toNat]?) :
    EnableBlind b (readRegister c l sel s) (readRegister c' l' sel (withEnable b s)) := by
  unfold readRegister
  rw [hl]
  cases l[sel.toNat]? with
  | none => exact enableBlind_takeFault .eSel
  | some v => exact enableBlind_whenInited hc (enableBlind_answer rfl rfl)

theorem enableBlind_withTap {c o : Nat} {f f' : Int → Result} (hf : ∀ x, EnableBlind b (f x) (f' x)) :
    EnableBlind b (withTap s c o f) (withTap (withEnable b s) c o f') := by
  intro t ht
  obtain ⟨hc, ho, ht⟩ := withTap_next ht
  exact (withTap_of_lt (s := withEnable b s) hc ho f').trans (hf _ t ht)

theorem enableBlind_ffeTaps {count n idx : Nat} {acc : Int} {f f' : Int → Result}
    (hf : ∀ x, EnableBlind b (f x) (f' x)) :
    EnableBlind b (ffeTaps s count n idx acc f) (ffeTaps (withEnable b s) count n idx acc f') := by
  induction count generalizing n idx acc with
  | zero => exact hf acc
  | succ count ih => exact enableBlind_withTap fun _ => ih

theorem enableBlind_grainProc (g : GrainId) (c : BitVec 16) (x : Word32) :
    EnableBlind b (exec (.grainProc c x g) s) (exec (.grainProc c x g) (withEnable b s)) := by
  have hfinish : ∀ gr, EnableBlind b (grainFinish g (dataValue x) gr s)
      (grainFinish g (dataValue x) gr (withEnable b s)) := fun gr => by
    unfold grainFinish
    rw [grain_withEnable]
    refine enableBlind_answer rfl ?_
    rw [← withEnable_setGrain, ← grainAdvance_withEnable]
    rfl
  rw [exec_grainProc, exec_grainProc]
  unfold grainProc
  rw [grain_withEnable]
  exact enableBlind_whenInited rfl (enableBlind_whenOperand (enableBlind_withTap fun t1 =>
    enableBlind_ite (enableBlind_withTap fun t2 => hfinish _) (hfinish _)))

theorem enableBlind_exec {i : Instr} (hinit : opOf (encode i) ≠ 1) (hswitch : opOf (encode i) ≠ 4)
    (hpeek : ¬(opOf (encode i) = 9 ∧ selOf (encode i) = 1)) :
    EnableBlind b (exec i s) (exec i (withEnable b s)) := by
  cases i using instr_cases with
  | glbNop => exact enableBlind_answer rfl rfl
  | glbPeek sel => exact enableBlind_readRegister rfl rfl
  | shbInit => exact absurd opOf_shbInit hinit
  | shbPush x =>
    exact enableBlind_whenInited rfl (enableBlind_whenOperand
      (enableBlind_ite (enableBlind_answer rfl rfl) enableBlind_fault))
  | shbRead c o =>
    exact enableBlind_whenInited rfl (enableBlind_whenOperand (enableBlind_withTap fun _ => enableBlind_answer rfl rfl))
  | shbIndex c o => exact enableBlind_whenInited rfl (enableBlind_whenOperand (enableBlind_answer rfl rfl))
  | shbPeek sel => exact enableBlind_readRegister rfl rfl
  | init e fs => exact absurd (opOf_init e fs) hinit
  | set e v k =>
    rw [exec_set, exec_set]
    exact enableBlind_whenInited (isInited_withEnable b s e)
      (enableBlind_guarded (divisorOk_withEnable b s e v k) (stored_withEnable b s e v k))
  | get e sel =>
    rw [exec_get, exec_get]
    exact enableBlind_readRegister (isInited_withEnable b s e) (by rw [params_withEnable])
  | switch e on => exact absurd (opOf_switch e on) hswitch
  | peek e sel =>
    have hsel : 1 ≠ sel.toNat := fun heq => hpeek ⟨opOf_peek e sel, (selOf_peek e sel).trans heq.symm⟩
    rw [exec_peek, exec_peek]
    exact enableBlind_readRegister (isInited_withEnable b s e) (by rw [registers_withEnable, List.getElem?_set_ne hsel])
  | grainProc g c x => exact enableBlind_grainProc g c x
  | fbeProc c x =>
    exact enableBlind_whenInited rfl (enableBlind_whenOperand (enableBlind_withTap fun _ => enableBlind_answer rfl rfl))
  | ffeProc c x =>
    exact enableBlind_whenInited rfl (enableBlind_whenOperand (enableBlind_ffeTaps fun _ => enableBlind_answer rfl rfl))
  | revProc x =>
    exact enableBlind_whenInited rfl (enableBlind_whenOperand
      (enableBlind_ite (enableBlind_answer rfl rfl) enableBlind_fault))

end

/-- Settles O21. -/
theorem enableHasNoEffectOnCommands : Obligations.EnableHasNoEffectOnCommands :=
  fun _ _ _ t hinit hswitch hpeek ht => enableBlind_exec hinit hswitch hpeek t ht

end Sys2Proof.Laws
end
